-- ==== Sys2Proof/Word.lean ====
section
/-! DEFINITION. The value types of 00_scope.md R6 and R7: bytes, 16-bit words, byte sequences. -/

namespace Sys2Proof

/-- An unsigned 8-bit value; bit 7 is its most significant bit (R6). -/
abbrev Byte := BitVec 8

/-- The spec's `u16` (R6). -/
abbrev Word := BitVec 16

/-- A finite list of bytes indexed from 0 (R7). -/
abbrev Bytes := List Byte

end Sys2Proof
end

