-- ==== Sys2Proof/Config.lean ====
section
/-! DEFINITION. The closed enumerations (30_encoding.md R97, R103, R105 to R107, R110), the types of the
block's parameters (00_scope.md R5, 10_state.md R32) and the fixed constants. The default values of
the parameters stand in Machine/Defaults.lean, the numeric codes in Machine/Codes.lean. -/

namespace Sys2Proof

/-- The fifteen commands of R97. -/
inductive CmdName where
  | status | version | denominations | ack | reset | stack | reject | inhibit | unInhibit
  | emergency | count | currencypath | setCount | setCurrentCount | payout
deriving DecidableEq, Repr

/-- The 34 states of R106, in its order. `initialise` is the spec's Initialize (the log, row 34). -/
inductive StateName where
  | start | powerUp | denominations | version | connected | refresh | initialise | enable | disable
  | accepting | escrow | stacking | vendValid | stacked | rejecting | returning | stackerOpen
  | stackerFull | acceptorJam | stackerJam | cheated | failure | comError | badFrame | currencyPath
  | setCount | setCurrentCount | count | paying | payStay | payValid | invalidCommand
  | recyclerUnitFailure | paused
deriving DecidableEq, Repr

/-- The 33 events of R107, one per state other than Start, in the order of their codes. -/
inductive Event where
  | powerUp | denominations | version | connect | refresh | initialise | enable | disable
  | accepting | escrow | stacking | vendValid | stacked | rejecting | returning | stackerOpen
  | stackerFull | acceptorJam | stackerJam | cheated | failure | comError | badFrame | currencypath
  | setCount | setCurrentCount | count | paying | payStay | payValid | invalidCommand
  | recyclerUnitFailure | paused
deriving DecidableEq, Repr

/-- The 32 response names of R110, in the order of their codes. -/
inductive RspName where
  | enable | accepting | escrow | stacking | vendValid | stacked | rejecting | returning | disable
  | initialise | powerUp | stackerFull | stackerOpen | acceptorJam | stackerJam | paused | cheated
  | failure | comError | invalidCommand | ack | version | denominations | inhibit | currencypath
  | setCount | setCurrentCount | count | paying | payStay | payValid | recyclerUnitFailure
deriving DecidableEq, Repr

/-- The fourteen rejection causes of R103. `unknown` is a cause the table itself names. -/
inductive ReasonName where
  | insertion | mug | head | calibration | conveying | discrimination | photoPattern | photoLevel
  | inhibit | unknown | operation | stacker | length | trueBill
deriving DecidableEq, Repr

/-- The four kinds of the path family, told apart by the sub-code byte (R105, R230). -/
inductive Kind where
  | currencyPath | setCount | setCurrentCount | count
deriving DecidableEq, Repr

/-- `CRC_PARAMS` (R131). -/
structure CrcParams where
  poly : Word
  init : Word
  refin : Bool
  refout : Bool
  xorout : Word
deriving DecidableEq, Repr

/-- A command template (R95): the frame image and the two parameter slots, `none` for a template
without slots. -/
structure Template where
  bytes : Bytes
  slots : Option (Nat × Nat)
deriving DecidableEq, Repr

/-- The three optional payload offsets `PATH_LAYOUT` gives a kind (R241). -/
structure PathOffsets where
  status : Option Nat
  a : Option Nat
  b : Option Nat
deriving DecidableEq, Repr

/-- The source of a transition rule (R262). -/
inductive Source where
  | wildcard
  | states (l : List StateName)
deriving DecidableEq, Repr

/-- A transition rule `(event, source) -> target` (R262). -/
structure Rule where
  ev : Event
  src : Source
  tgt : StateName
deriving DecidableEq, Repr

/-- `STUCK_MODE` (R290). -/
inductive StuckMode where
  | byState | never
deriving DecidableEq, Repr

/-- The parameters of 00_scope.md R5, as plain data. A table is a list of its populated entries; the
first entry for an index counts, an index with no entry reads `none` (the log, row 10). -/
structure Params where
  /-- `CRC_PARAMS` -/
  crc : CrcParams
  /-- `TEMPLATE_ROM` (R150) -/
  templates : List (CmdName × Template)
  /-- `RSP_ROM` (R100) -/
  rsp : List (Byte × RspName)
  /-- `REJ_ROM` (R103) -/
  rej : List (Byte × ReasonName)
  /-- `SUBCODE_ROM` (R240) -/
  subcode : List (Byte × Kind)
  /-- `PATH_LAYOUT` (R241) -/
  layout : List (Kind × PathOffsets)
  /-- `RULE_ROM` (R262) -/
  rules : List Rule
  /-- `STUCK_MODE` (R290) -/
  stuckMode : StuckMode
deriving DecidableEq, Repr

/-- `SYNC` (R90). -/
abbrev Config.sync : Byte := 0xFC

/-- `MIN_FRAME` (R92). -/
abbrev Config.minFrame : Nat := 5

/-- `RX_CAP` (R24). -/
abbrev Config.rxCap : Nat := 255

/-- The largest payload of a frame (R90): the length byte counts five other bytes. -/
abbrev Config.maxPayload : Nat := 250

/-- FREE VALUE (the log, row 5): the byte written into a parameter slot of a command that is sent without
parameters (`TX_ENCODE(id, -, -)`), which only an ill-formed template has (R150). -/
opaque Config.freeByte : Nat → Byte

/-! FREE VALUES of the frame-out port (the log, row 36): what its 8-bit and 5-bit signals show where R11 and
R60 give them no value. Each is applied to the number of outputs so far, so that it may differ from
frame to frame. -/

/-- FREE VALUE: `frm_opcode` after a malformed frame. -/
opaque Config.freeFrmOpcode : Nat → Byte

/-- FREE VALUE: `frm_name` after a frame that was not decoded. -/
opaque Config.freeFrmName : Nat → BitVec 5

/-- FREE VALUE: `frm_len` after a malformed frame; R11 bounds it by 250. -/
opaque Config.freeFrmLen : Nat → Fin 251

/-- FREE VALUE: `frm_rd_data` at an index that is not one of a payload byte. -/
opaque Config.freeFrmData : Nat → Byte → Byte

end Sys2Proof
end

