-- ==== Sys2Proof/Machine/Defaults.lean ====
section
/-! DEFINITION. The values of the parameters in `State.reset` (30_encoding.md R97, R101, R104, 40_crc.md
R136, 41_tx_encode.md R153; the log, rows 11 to 17) and the spec's illustrative tables (41_tx_encode.md R159,
95_test_vectors.md section 1), which are used by tests only. No statement about the machine rests on
a default: the parameters are a field of the state it is stated over. -/

namespace Sys2Proof

/-- PRESUMED (the log, row 11): the default `CRC_PARAMS` (R136). -/
def defaultCrc : CrcParams :=
  { poly := 0x1021, init := 0, refin := true, refout := true, xorout := 0 }

/-- PRESUMED (the log, row 12): the default `TEMPLATE_ROM` (R97, R153). -/
def defaultTemplates : List (CmdName × Template) :=
  [(.status, ⟨[0xFC, 0x05, 0x11, 0x27, 0x56], none⟩),
   (.version, ⟨[0xFC, 0x05, 0x88, 0x6F, 0x5F], none⟩),
   (.denominations, ⟨[0xFC, 0x05, 0x8A, 0x7D, 0x7C], none⟩),
   (.ack, ⟨[0xFC, 0x05, 0x50, 0xAA, 0x05], none⟩),
   (.reset, ⟨[0xFC, 0x05, 0x40, 0x2B, 0x15], none⟩),
   (.stack, ⟨[0xFC, 0x05, 0x41, 0xA2, 0x04], none⟩),
   (.reject, ⟨[0xFC, 0x05, 0x43, 0xB0, 0x27], none⟩),
   (.inhibit, ⟨[0xFC, 0x06, 0xC3, 0x01, 0x8D, 0xC7], none⟩),
   (.unInhibit, ⟨[0xFC, 0x06, 0xC3, 0x00, 0x04, 0xD6], none⟩)]

/-- The default `RSP_ROM` (R101): `0x40` and `0x44` are the source's (R100); the rest is PRESUMED (the log,
row 13). -/
def defaultRsp : List (Byte × RspName) :=
  [(0x11, .enable), (0x12, .accepting), (0x13, .escrow), (0x14, .stacking), (0x15, .vendValid),
   (0x16, .stacked), (0x17, .rejecting), (0x18, .returning), (0x1A, .disable), (0x1B, .initialise),
   (0x40, .powerUp), (0x43, .stackerFull), (0x44, .stackerOpen), (0x45, .acceptorJam),
   (0x46, .stackerJam), (0x47, .paused), (0x48, .cheated), (0x49, .failure), (0x4A, .comError),
   (0x4B, .invalidCommand), (0x50, .ack), (0x88, .version), (0x8A, .denominations), (0xC3, .inhibit)]

/-- PRESUMED (the log, row 14): the default `REJ_ROM` (R104). -/
def defaultRej : List (Byte × ReasonName) :=
  [(0x71, .insertion), (0x72, .mug), (0x73, .head), (0x74, .calibration), (0x75, .conveying),
   (0x76, .discrimination), (0x77, .photoPattern), (0x78, .photoLevel), (0x79, .inhibit),
   (0x7A, .unknown), (0x7B, .operation), (0x7C, .stacker), (0x7D, .length), (0x7E, .photoPattern),
   (0x7F, .trueBill)]

/-- The one rule the source fixes outright (R263 a). -/
def badFrameRule : Rule := ⟨.badFrame, .wildcard, .badFrame⟩

/-- DESIGN CHOICE (the log, row 16): the `RULE_ROM` of `State.reset`. R263 fixes the first rule and, of the
others, memberships: (b) Initialize to Disable, Connected to VendValid; (c) Start to Connected and to
ComError; (d) a way from Accepting to Enable, a rule into Stacking; (e) BadFrame among the sources. The
model chooses their events (each the namesake of its target) and adds no other source. -/
def defaultRules : List Rule :=
  [badFrameRule,
   ⟨.comError, .wildcard, .comError⟩,
   ⟨.connect, .states [.start], .connected⟩,
   ⟨.initialise, .states [.badFrame], .initialise⟩,
   ⟨.disable, .states [.initialise, .badFrame], .disable⟩,
   ⟨.enable, .states [.rejecting, .badFrame], .enable⟩,
   ⟨.accepting, .states [.badFrame], .accepting⟩,
   ⟨.escrow, .states [.badFrame], .escrow⟩,
   ⟨.stacking, .states [.badFrame], .stacking⟩,
   ⟨.vendValid, .states [.connected, .badFrame], .vendValid⟩,
   ⟨.stacked, .states [.badFrame], .stacked⟩,
   ⟨.rejecting, .states [.accepting, .badFrame], .rejecting⟩,
   ⟨.returning, .states [.badFrame], .returning⟩]

/-- The parameters of `State.reset`. `SUBCODE_ROM` and `PATH_LAYOUT` have no default (R5) and are empty:
DESIGN CHOICE (the log, row 15). `STUCK_MODE` is the spec's `by_state` (R5). -/
def defaultParams : Params :=
  { crc := defaultCrc, templates := defaultTemplates, rsp := defaultRsp, rej := defaultRej,
    subcode := [], layout := [], rules := defaultRules, stuckMode := .byState }

/-- `EX_RULES`, the spec's illustration (95_test_vectors.md section 1); not a default. -/
def exampleRules : List Rule :=
  [badFrameRule,
   ⟨.connect, .states [.start, .refresh], .connected⟩,
   ⟨.comError, .wildcard, .comError⟩,
   ⟨.powerUp, .wildcard, .powerUp⟩,
   ⟨.denominations, .wildcard, .denominations⟩,
   ⟨.version, .wildcard, .version⟩,
   ⟨.initialise, .states [.connected, .powerUp, .version, .denominations, .badFrame], .initialise⟩,
   ⟨.disable, .states [.initialise, .enable, .version, .denominations, .connected, .badFrame],
     .disable⟩,
   ⟨.enable, .states [.disable, .stacked, .rejecting, .returning, .version, .denominations,
     .connected, .badFrame], .enable⟩,
   ⟨.accepting, .states [.enable, .badFrame], .accepting⟩,
   ⟨.escrow, .states [.accepting, .badFrame], .escrow⟩,
   ⟨.stacking, .states [.escrow, .badFrame], .stacking⟩,
   ⟨.vendValid, .states [.stacking, .connected, .badFrame], .vendValid⟩,
   ⟨.stacked, .states [.vendValid, .badFrame], .stacked⟩,
   ⟨.rejecting, .states [.accepting, .escrow, .badFrame], .rejecting⟩,
   ⟨.returning, .states [.escrow, .badFrame], .returning⟩]

/-- `EX_PAYOUT` (R159), illustrative. -/
def examplePayout : Template := ⟨[0xFC, 0x09, 0xF0, 0x20, 0x4A, 0, 0, 0, 0], some (5, 6)⟩

/-- `EX_CURRENCYPATH` (R159), illustrative. -/
def exampleCurrencypath : Template := ⟨[0xFC, 0x09, 0xF0, 0x20, 0xD0, 0, 0, 0, 0], some (5, 6)⟩

end Sys2Proof
end

