-- ==== Sys2Proof/Syntax.lean ====
section
/-! DEFINITION. The instructions: one constructor of `Instr` per row of spec/opcode_table.json, and the
typed values their operands use (43_payload_decode.md R230). -/

namespace Sys2Proof

/-- An entry of a denomination table: the escrow code byte, the significand byte and the exponent
byte (R30, R233). -/
structure DenomEntry where
  code : Byte
  sig : Byte
  exp : Byte
deriving DecidableEq, Repr

/-- `PathData` (R230): `a` is `path1` or `count`, `b` is `path2` or `box` (R241). -/
structure PathData where
  kind : Option Kind
  status : Option Byte
  a : Option Byte
  b : Option Byte
  raw : Bytes
deriving DecidableEq, Repr

/-- The typed payload of R230. -/
inductive EventData where
  | noData
  | escrow (code : Option Byte) (denomination : Option (Byte × Byte))
  | reject (code : Option Byte) (reason : Option ReasonName)
  | denoms (entries : List DenomEntry)
  | version (text : Bytes)
  | stacked (path : Option Byte)
  | path (d : PathData)
deriving DecidableEq, Repr

/-- The instructions. A `rsp` or `rx` row is one received frame of that kind, a `cmd` row one command,
an `op` row one atomic operation of 00_scope.md R10. -/
inductive Instr where
  /-- `cmd.status` (R160) -/
  | cmdStatus
  /-- `cmd.version` (R161) -/
  | cmdVersion
  /-- `cmd.denominations` (R162) -/
  | cmdDenominations
  /-- `cmd.ack` (R163) -/
  | cmdAck
  /-- `cmd.reset` (R164) -/
  | cmdReset
  /-- `cmd.stack` (R165) -/
  | cmdStack
  /-- `cmd.reject` (R166) -/
  | cmdReject
  /-- `cmd.inhibit` (R167) -/
  | cmdInhibit
  /-- `cmd.unInhibit` (R168) -/
  | cmdUnInhibit
  /-- `cmd.emergency` (R169) -/
  | cmdEmergency
  /-- `cmd.count` (R170) -/
  | cmdCount
  /-- `cmd.currencypath` (R171) -/
  | cmdCurrencypath (path1 path2 : Byte)
  /-- `cmd.setCount` (R172) -/
  | cmdSetCount (count box : Byte)
  /-- `cmd.setCurrentCount` (R173) -/
  | cmdSetCurrentCount (count box : Byte)
  /-- `cmd.payout` (R174) -/
  | cmdPayout (count box : Byte)
  /-- `rsp.enable` (R440) -/
  | rspEnable (opcode : Byte) (payload : Bytes)
  /-- `rsp.accepting` (R441) -/
  | rspAccepting (opcode : Byte) (payload : Bytes)
  /-- `rsp.escrow` (R231) -/
  | rspEscrow (opcode : Byte) (payload : Bytes)
  /-- `rsp.stacking` (R442) -/
  | rspStacking (opcode : Byte) (payload : Bytes)
  /-- `rsp.vendValid` (R443) -/
  | rspVendValid (opcode : Byte) (payload : Bytes)
  /-- `rsp.stacked` (R235) -/
  | rspStacked (opcode : Byte) (payload : Bytes)
  /-- `rsp.rejecting` (R232) -/
  | rspRejecting (opcode : Byte) (payload : Bytes)
  /-- `rsp.returning` (R444) -/
  | rspReturning (opcode : Byte) (payload : Bytes)
  /-- `rsp.disable` (R445) -/
  | rspDisable (opcode : Byte) (payload : Bytes)
  /-- `rsp.initialize` (R446) -/
  | rspInitialize (opcode : Byte) (payload : Bytes)
  /-- `rsp.powerUp` (R447) -/
  | rspPowerUp (opcode : Byte) (payload : Bytes)
  /-- `rsp.stackerFull` (R448) -/
  | rspStackerFull (opcode : Byte) (payload : Bytes)
  /-- `rsp.stackerOpen` (R449) -/
  | rspStackerOpen (opcode : Byte) (payload : Bytes)
  /-- `rsp.acceptorJam` (R450) -/
  | rspAcceptorJam (opcode : Byte) (payload : Bytes)
  /-- `rsp.stackerJam` (R451) -/
  | rspStackerJam (opcode : Byte) (payload : Bytes)
  /-- `rsp.paused` (R452) -/
  | rspPaused (opcode : Byte) (payload : Bytes)
  /-- `rsp.cheated` (R453) -/
  | rspCheated (opcode : Byte) (payload : Bytes)
  /-- `rsp.failure` (R454) -/
  | rspFailure (opcode : Byte) (payload : Bytes)
  /-- `rsp.comError` (R455) -/
  | rspComError (opcode : Byte) (payload : Bytes)
  /-- `rsp.invalidCommand` (R456) -/
  | rspInvalidCommand (opcode : Byte) (payload : Bytes)
  /-- `rsp.ack` (R457) -/
  | rspAck (opcode : Byte) (payload : Bytes)
  /-- `rsp.version` (R234) -/
  | rspVersion (opcode : Byte) (payload : Bytes)
  /-- `rsp.denominations` (R233) -/
  | rspDenominations (opcode : Byte) (payload : Bytes)
  /-- `rsp.inhibit` (R458) -/
  | rspInhibit (opcode : Byte) (payload : Bytes)
  /-- `rsp.paying` (R459) -/
  | rspPaying (opcode : Byte) (payload : Bytes)
  /-- `rsp.payStay` (R460) -/
  | rspPayStay (opcode : Byte) (payload : Bytes)
  /-- `rsp.payValid` (R461) -/
  | rspPayValid (opcode : Byte) (payload : Bytes)
  /-- `rsp.recyclerUnitFailure` (R462) -/
  | rspRecyclerUnitFailure (opcode : Byte) (payload : Bytes)
  /-- `rsp.path.currencypath` (R242) -/
  | rspPathCurrencypath (opcode : Byte) (payload : Bytes)
  /-- `rsp.path.count` (R243) -/
  | rspPathCount (opcode : Byte) (payload : Bytes)
  /-- `rsp.path.setCount` (R245) -/
  | rspPathSetCount (opcode : Byte) (payload : Bytes)
  /-- `rsp.path.setCurrentCount` (R246) -/
  | rspPathSetCurrentCount (opcode : Byte) (payload : Bytes)
  /-- `rsp.path.unrecognised` (R244) -/
  | rspPathUnrecognised (opcode : Byte) (payload : Bytes)
  /-- `rsp.unknown` (R196) -/
  | rspUnknown (opcode : Byte) (payload : Bytes)
  /-- `rx.tooShort` (R194) -/
  | rxTooShort (len : Byte) (rest : Bytes)
  /-- `rx.crcMismatch` (R195) -/
  | rxCrcMismatch (opcode : Byte) (payload : Bytes) (trailer : Word)
  /-- `op.RESET` (R400) -/
  | opReset
  /-- `op.CRC_CLEAR` (R132) -/
  | opCrcClear
  /-- `op.CRC_BYTE` (R133) -/
  | opCrcByte (b : Byte)
  /-- `op.CRC_READ` (R134) -/
  | opCrcRead
  /-- `op.TX_ENCODE` (R151) -/
  | opTxEncode (id : BitVec 4) (p0 p1 : Byte)
  /-- `op.RX_CHUNK` (R191) -/
  | opRxChunk (chunk : Bytes)
  /-- `op.RX_BYTE` (R192) -/
  | opRxByte (b : Byte)
  /-- `op.FSM_EVENT` (R266) -/
  | opFsmEvent (ev : Event) (data : EventData)
  /-- `op.STUCK_FIRE` (R292) -/
  | opStuckFire
  /-- `op.FSM_NEW` (R402) -/
  | opFsmNew
  /-- `op.SESSION_REFRESH` (R403) -/
  | opSessionRefresh
  /-- `op.RX_DELIVER` (R330) -/
  | opRxDeliver (chunk : Bytes)
  /-- `op.HOST_EVENT` (R339) -/
  | opHostEvent (code : BitVec 6)
  /-- `op.HOST_ENABLE` (R340) -/
  | opHostEnable
  /-- `op.HOST_DISABLE` (R341) -/
  | opHostDisable
  /-- `op.HOST_STACK` (R342) -/
  | opHostStack
  /-- `op.HOST_REJECT` (R343) -/
  | opHostReject
  /-- `op.HOST_EMERGENCY` (R344) -/
  | opHostEmergency
  /-- `op.HOST_COUNT` (R345) -/
  | opHostCount
  /-- `op.HOST_CURRENCYPATH` (R346) -/
  | opHostCurrencypath (path1 path2 : Byte)
  /-- `op.HOST_SETCOUNT` (R347) -/
  | opHostSetcount (count box : Byte)
  /-- `op.HOST_SETCURRENTCOUNT` (R348) -/
  | opHostSetcurrentcount (count box : Byte)
  /-- `op.HOST_PAYOUT` (R349) -/
  | opHostPayout (count box : Byte)
  /-- `op.HOST_STATUS` (R350) -/
  | opHostStatus
  /-- `op.HOST_VERSION` (R351) -/
  | opHostVersion
deriving DecidableEq, Repr

/-- What reaches the block (00_scope.md R11, R12, 60_exceptions.md R370): the model's own form of a
stimulus (the log, rows 2 and 24). -/
inductive Stimulus where
  /-- one `data(bytes)` notification of the transport -/
  | rx (chunk : Bytes)
  /-- a command asked for by its frame image, the opcode table's encoding of a `cmd` row -/
  | image (bytes : Bytes)
  /-- an operation selected by its port strobe; it has no bit encoding -/
  | strobe (i : Instr)
deriving DecidableEq, Repr

end Sys2Proof
end

