-- ==== Sys2Proof/Machine/Codes.lean ====
section
/-! DEFINITION. The numeric codes the spec assigns to its enumerations (30_encoding.md R97, R106, R107,
R110) and the event a response name raises (45_glue.md R331). The codes matter only on the ports. -/

namespace Sys2Proof

/-- The 4-bit command id (R97). -/
def CmdName.id : CmdName → BitVec 4
  | .status => 0
  | .version => 1
  | .denominations => 2
  | .ack => 3
  | .reset => 4
  | .stack => 5
  | .reject => 6
  | .inhibit => 7
  | .unInhibit => 8
  | .emergency => 9
  | .count => 10
  | .currencypath => 11
  | .setCount => 12
  | .setCurrentCount => 13
  | .payout => 14

/-- Every command, in the order of the ids. -/
def CmdName.all : List CmdName :=
  [.status, .version, .denominations, .ack, .reset, .stack, .reject, .inhibit, .unInhibit,
   .emergency, .count, .currencypath, .setCount, .setCurrentCount, .payout]

/-- The command with a given id; id 15 is no command (R97, R152). -/
def CmdName.ofId? (id : BitVec 4) : Option CmdName :=
  CmdName.all.find? fun c => c.id = id

/-- The commands with two parameters (R96, R97: shape TXP). -/
def CmdName.parametric : CmdName → Bool
  | .currencypath => true
  | .setCount => true
  | .setCurrentCount => true
  | .payout => true
  | _ => false

/-- The 6-bit state code (R106). -/
def StateName.code : StateName → BitVec 6
  | .start => 0
  | .powerUp => 1
  | .denominations => 2
  | .version => 3
  | .connected => 4
  | .refresh => 5
  | .initialise => 6
  | .enable => 7
  | .disable => 8
  | .accepting => 9
  | .escrow => 10
  | .stacking => 11
  | .vendValid => 12
  | .stacked => 13
  | .rejecting => 14
  | .returning => 15
  | .stackerOpen => 16
  | .stackerFull => 17
  | .acceptorJam => 18
  | .stackerJam => 19
  | .cheated => 20
  | .failure => 21
  | .comError => 22
  | .badFrame => 23
  | .currencyPath => 24
  | .setCount => 25
  | .setCurrentCount => 26
  | .count => 27
  | .paying => 28
  | .payStay => 29
  | .payValid => 30
  | .invalidCommand => 31
  | .recyclerUnitFailure => 32
  | .paused => 33

/-- The 6-bit event code: that of the namesake state (R107). -/
def Event.code : Event → BitVec 6
  | .powerUp => 1
  | .denominations => 2
  | .version => 3
  | .connect => 4
  | .refresh => 5
  | .initialise => 6
  | .enable => 7
  | .disable => 8
  | .accepting => 9
  | .escrow => 10
  | .stacking => 11
  | .vendValid => 12
  | .stacked => 13
  | .rejecting => 14
  | .returning => 15
  | .stackerOpen => 16
  | .stackerFull => 17
  | .acceptorJam => 18
  | .stackerJam => 19
  | .cheated => 20
  | .failure => 21
  | .comError => 22
  | .badFrame => 23
  | .currencypath => 24
  | .setCount => 25
  | .setCurrentCount => 26
  | .count => 27
  | .paying => 28
  | .payStay => 29
  | .payValid => 30
  | .invalidCommand => 31
  | .recyclerUnitFailure => 32
  | .paused => 33

/-- Every event, in the order of the codes. -/
def Event.all : List Event :=
  [.powerUp, .denominations, .version, .connect, .refresh, .initialise, .enable, .disable,
   .accepting, .escrow, .stacking, .vendValid, .stacked, .rejecting, .returning, .stackerOpen,
   .stackerFull, .acceptorJam, .stackerJam, .cheated, .failure, .comError, .badFrame,
   .currencypath, .setCount, .setCurrentCount, .count, .paying, .payStay, .payValid,
   .invalidCommand, .recyclerUnitFailure, .paused]

/-- The event with a given code; codes 0 and 34 to 63 are unused (R107, R114). -/
def Event.ofCode? (code : BitVec 6) : Option Event :=
  Event.all.find? fun e => e.code = code

/-- The 5-bit response-name code (R110). -/
def RspName.code : RspName → BitVec 5
  | .enable => 0
  | .accepting => 1
  | .escrow => 2
  | .stacking => 3
  | .vendValid => 4
  | .stacked => 5
  | .rejecting => 6
  | .returning => 7
  | .disable => 8
  | .initialise => 9
  | .powerUp => 10
  | .stackerFull => 11
  | .stackerOpen => 12
  | .acceptorJam => 13
  | .stackerJam => 14
  | .paused => 15
  | .cheated => 16
  | .failure => 17
  | .comError => 18
  | .invalidCommand => 19
  | .ack => 20
  | .version => 21
  | .denominations => 22
  | .inhibit => 23
  | .currencypath => 24
  | .setCount => 25
  | .setCurrentCount => 26
  | .count => 27
  | .paying => 28
  | .payStay => 29
  | .payValid => 30
  | .recyclerUnitFailure => 31

/-- The event of the same name; `ack` and `inhibit` are no events (R110, R332). -/
def RspName.event? : RspName → Option Event
  | .enable => some .enable
  | .accepting => some .accepting
  | .escrow => some .escrow
  | .stacking => some .stacking
  | .vendValid => some .vendValid
  | .stacked => some .stacked
  | .rejecting => some .rejecting
  | .returning => some .returning
  | .disable => some .disable
  | .initialise => some .initialise
  | .powerUp => some .powerUp
  | .stackerFull => some .stackerFull
  | .stackerOpen => some .stackerOpen
  | .acceptorJam => some .acceptorJam
  | .stackerJam => some .stackerJam
  | .paused => some .paused
  | .cheated => some .cheated
  | .failure => some .failure
  | .comError => some .comError
  | .invalidCommand => some .invalidCommand
  | .ack => none
  | .version => some .version
  | .denominations => some .denominations
  | .inhibit => none
  | .currencypath => some .currencypath
  | .setCount => some .setCount
  | .setCurrentCount => some .setCurrentCount
  | .count => some .count
  | .paying => some .paying
  | .payStay => some .payStay
  | .payValid => some .payValid
  | .recyclerUnitFailure => some .recyclerUnitFailure

/-- The transient states: exactly Returning, Stacking, Stacked, Accepting, Rejecting (R291). -/
def StateName.transient : StateName → Bool
  | .returning => true
  | .stacking => true
  | .stacked => true
  | .accepting => true
  | .rejecting => true
  | _ => false

end Sys2Proof
end

