-- ==== Sys2Proof/Machine/Crc.lean ====
section
/-! DEFINITION. The CRC unit's arithmetic (40_crc.md R131 to R140) and the byte order of a 16-bit value
(00_scope.md R6, 20_memory.md R61). -/

namespace Sys2Proof

/-- `lo8` (R6). -/
def lo8 (w : Word) : Byte := w.setWidth 8

/-- `hi8` (R6). -/
def hi8 (w : Word) : Byte := (w >>> 8).setWidth 8

/-- `le16(a, b)`: the `u16` whose first byte on the wire is `a` (R6, R61). -/
def le16 (a b : Byte) : Word := a.setWidth 16 ||| (b.setWidth 16 <<< 8)

/-- `reflect_8` (R6). -/
def reflect8 (b : Byte) : Byte := b.reverse

/-- `reflect_16` (R6). -/
def reflect16 (w : Word) : Word := w.reverse

/-- One shift of the register (the body of the loop of R133). -/
def crcShift (poly c : Word) : Word :=
  if c.msb then (c <<< 1) ^^^ poly else c <<< 1

/-- `crc_step` (R133): one byte into the accumulator. -/
def crcStep (p : CrcParams) (c : Word) (b : Byte) : Word :=
  let d := if p.refin then reflect8 b else b
  (crcShift p.poly)^[8] (c ^^^ (d.setWidth 16 <<< 8))

/-- `finish` (R135), what `CRC_READ` returns (R134). -/
def crcFinish (p : CrcParams) (c : Word) : Word :=
  (if p.refout then reflect16 c else c) ^^^ p.xorout

/-- `crc16` as a pure function (R135). -/
def crc16 (p : CrcParams) (s : Bytes) : Word :=
  crcFinish p (s.foldl (crcStep p) p.init)

/-- One shift of the right-shifting realisation of R136. -/
def crcShiftRight (a : Word) : Word :=
  if a.getLsbD 0 then (a >>> 1) ^^^ 0x8408 else a >>> 1

/-- The right-shifting realisation of R136, for the default parameters. -/
def crc16Right (s : Bytes) : Word :=
  s.foldl (fun a b => crcShiftRight^[8] (a ^^^ b.setWidth 16)) 0

end Sys2Proof
end

