-- ==== Sys2Proof/Machine/Frame.lean ====
section
/-! DEFINITION. The frame format (30_encoding.md R90 to R95), reads of the read-only tables
(20_memory.md R60), the receive buffer primitives (R70) with the ingest loop (42_rx_ingest.md R191),
the classification of a delimited frame (R194 to R196) and the image of a command (41_tx_encode.md
R151). Pure functions of bytes and parameters, shared by the decoder and the machine. -/

namespace Sys2Proof

/-! ### The read-only tables -/

/-- `RSP_ROM[opcode]` (R100). -/
def rspLookup (p : Params) (opcode : Byte) : Option RspName := p.rsp.lookup opcode

/-- `REJ_ROM[b]` (R103). -/
def rejLookup (p : Params) (b : Byte) : Option ReasonName := p.rej.lookup b

/-- `TEMPLATE_ROM[id]` (R150). -/
def templateLookup (p : Params) (c : CmdName) : Option Template := p.templates.lookup c

/-- `PATH_LAYOUT[kind]`; a kind without an entry has no offsets (R241). -/
def layoutLookup (p : Params) (k : Kind) : PathOffsets := (p.layout.lookup k).getD ⟨none, none, none⟩

/-- Kind selection of the path family (R240). -/
def pathKind (p : Params) (payload : Bytes) : Option Kind :=
  payload[1]?.bind fun sub => p.subcode.lookup sub

/-- Whether a rule's source admits a state (R262). -/
def Source.admits : Source → StateName → Bool
  | .wildcard, _ => true
  | .states l, s => l.contains s

/-- `next(ev, s)` (R265): a wildcard rule first, then an explicit one. -/
def nextState (rules : List Rule) (ev : Event) (s : StateName) : Option StateName :=
  match rules.find? fun r => r.ev == ev && r.src == .wildcard with
  | some r => some r.tgt
  | none => (rules.find? fun r => r.ev == ev && r.src.admits s).map Rule.tgt

/-! ### Frames -/

/-- `payload = frame[3 .. L-2)` (R93). -/
def framePayload (frame : Bytes) : Bytes := (frame.take (frame.length - 2)).drop 3

/-- The CRC field of a frame (R94). -/
def frameTrailer (frame : Bytes) : Word :=
  le16 (frame.getD (frame.length - 2) 0) (frame.getD (frame.length - 1) 0)

/-- The bytes the CRC covers (R90). -/
def frameBody (frame : Bytes) : Bytes := frame.take (frame.length - 2)

/-- The two trailer bytes of a CRC, low byte first (R94). -/
def trailerBytes (crc : Word) : Bytes := [lo8 crc, hi8 crc]

/-- Sync, length, opcode and payload of a frame (R90). -/
def frameHead (opcode : Byte) (payload : Bytes) : Bytes :=
  Config.sync :: BitVec.ofNat 8 (payload.length + 5) :: opcode :: payload

/-- A whole frame with a given trailer (R90). -/
def frameWith (opcode : Byte) (payload : Bytes) (trailer : Word) : Bytes :=
  frameHead opcode payload ++ trailerBytes trailer

/-- A whole frame with its CRC (R90). -/
def frameOf (p : Params) (opcode : Byte) (payload : Bytes) : Bytes :=
  frameWith opcode payload (crc16 p.crc (frameHead opcode payload))

/-- The number of bytes a candidate frame takes: `max(L, 2)` (R191). -/
def frameSize (len : Byte) : Nat := max len.toNat 2

/-- Whether the bytes are exactly one delimited frame: sync, length byte, `max(L, 2)` bytes (R191). -/
def isOneFrame : Bytes → Bool
  | sync :: len :: rest => sync == Config.sync && rest.length + 2 == frameSize len
  | _ => false

/-- What a delimited frame is, before its payload is decoded (R194 to R196). -/
inductive FrameClass where
  | tooShort
  | crcMismatch
  | unknown (opcode : Byte) (payload : Bytes)
  | response (name : RspName) (opcode : Byte) (payload : Bytes)
deriving DecidableEq, Repr

/-- `PARSE` up to the response table: length, then CRC, then opcode (R195, R196, R371). -/
def classify (p : Params) (frame : Bytes) : FrameClass :=
  if frame.length < Config.minFrame then .tooShort
  else if crc16 p.crc (frameBody frame) ≠ frameTrailer frame then .crcMismatch
  else
    let opcode := frame.getD 2 0
    match rspLookup p opcode with
    | none => .unknown opcode (framePayload frame)
    | some name => .response name opcode (framePayload frame)

/-! ### The receive buffer -/

/-- `resync()` (R70): drop everything before the first sync byte. -/
def resync (buf : Bytes) : Bytes := buf.dropWhile (· != Config.sync)

/-- The loop of R191, with fuel: the frames sliced off and the bytes left. Each round takes at least two
bytes, so as much fuel as bytes is enough. -/
def ingestLoop : Nat → Bytes → List Bytes × Bytes
  | 0, buf => ([], resync buf)
  | fuel + 1, buf =>
    let b := resync buf
    match b[1]? with
    | none => ([], b)
    | some len =>
      if b.length < frameSize len then ([], b)
      else
        let r := ingestLoop fuel (b.drop (frameSize len))
        (b.take (frameSize len) :: r.1, r.2)

/-- The frames `RX_CHUNK(chunk)` slices off and the buffer it leaves (R191). -/
def ingest (buf chunk : Bytes) : List Bytes × Bytes :=
  ingestLoop (buf ++ chunk).length (buf ++ chunk)

/-! ### Command images -/

/-- Writes the CRC of all bytes before the trailer into the trailer, low byte first (R94, R151). -/
def sealTrailer (c : CrcParams) (bytes : Bytes) : Bytes :=
  frameBody bytes ++ trailerBytes (crc16 c (frameBody bytes))

/-- The bytes `TX_ENCODE` returns for a template (R151): a template without slots as stored (R154),
one with slots patched and sealed (R155). -/
def commandImage (c : CrcParams) (t : Template) (p0 p1 : Byte) : Bytes :=
  match t.slots with
  | none => t.bytes
  | some (i, j) => sealTrailer c ((t.bytes.set i p0).set j p1)

/-- The part of an image the opcode table matches: the bytes before the trailer, the slots masked out. -/
def maskedBody (t : Template) (bytes : Bytes) : Bytes :=
  match t.slots with
  | none => frameBody bytes
  | some (i, j) => ((frameBody bytes).set i 0).set j 0

/-- Whether an image matches a command's template, by the opcode table's match and mask: everything but
the slots and the trailer. -/
def matchesTemplate (t : Template) (bytes : Bytes) : Bool :=
  bytes.length == t.bytes.length && maskedBody t bytes == maskedBody t t.bytes

end Sys2Proof
end

