-- ==== Sys2Proof/WellFormed.lean ====
section
/-! DEFINITION. Well-formedness: of the parameters (00_scope.md R5, 70_reset_and_hazards.md R404, with
30_encoding.md R100, 41_tx_encode.md R150, 44_fsm.md R263 and R264) and of an instruction under given
parameters (the terms an encoding of the spec stands for). -/

namespace Sys2Proof

/-! ### Parameters -/

/-- A well-formed `TEMPLATE_ROM` entry of a command (R150). -/
def templateWf (c : CrcParams) (name : CmdName) (t : Template) : Bool :=
  decide (Config.minFrame ≤ t.bytes.length) && decide (t.bytes.length ≤ Config.rxCap) &&
  t.bytes.head? == some Config.sync &&
  t.bytes[1]? == some (BitVec.ofNat 8 t.bytes.length) &&
  match t.slots with
  | none => !name.parametric && crc16 c (frameBody t.bytes) == frameTrailer t.bytes
  | some (i, j) =>
    name.parametric && i != j && decide (3 ≤ i) && decide (3 ≤ j) &&
    decide (i + 2 < t.bytes.length) && decide (j + 2 < t.bytes.length)

/-- A well-formed `TEMPLATE_ROM`: every entry is (R150). -/
def templatesWf (p : Params) : Bool :=
  CmdName.all.all fun c =>
    match templateLookup p c with
    | none => true
    | some t => templateWf p.crc c t

/-- What R100 fixes of `RSP_ROM`: two entries, and three names that are never values. -/
def rspWf (p : Params) : Bool :=
  rspLookup p 0x40 == some .powerUp && rspLookup p 0x44 == some .stackerOpen &&
  p.rsp.all fun e => e.2 != .setCount && e.2 != .setCurrentCount && e.2 != .count

/-- Two rules for one event do not compete: both have explicit, disjoint source sets (R264). -/
def rulesDisjoint (r r' : Rule) : Bool :=
  r.ev != r'.ev ||
  match r.src, r'.src with
  | .states l, .states l' => l.all fun s => !l'.contains s
  | _, _ => false

/-- A well-formed `RULE_ROM` (R264) with the `badFrame` wildcard (R263 a). -/
def rulesWf (rules : List Rule) : Bool :=
  decide (rules.Pairwise fun r r' => rulesDisjoint r r' = true) &&
  rules.any fun r => r.ev == .badFrame && r.src == .wildcard && r.tgt == .badFrame

/-- Some rule leads from a state to a target (R263). -/
def leads (rules : List Rule) (s t : StateName) : Bool :=
  rules.any fun r => r.src.admits s && r.tgt == t

/-- The states reached from some of a list in at most `n` transitions. -/
def reachable (rules : List Rule) : Nat → List StateName → List StateName
  | 0, l => l
  | n + 1, l =>
    reachable rules n (l ++ (rules.filter fun r => l.any r.src.admits && !l.contains r.tgt).map Rule.tgt)

/-- The events of the responses a device sends in normal operation. The source does not list them; these
ten are DESIGN CHOICE (the log, row 16). -/
def normalEvents : List Event :=
  [.initialise, .disable, .enable, .accepting, .escrow, .stacking, .vendValid, .stacked, .rejecting,
   .returning]

/-- The memberships of R263: (b), (c), (d), (e) and, from its last sentence, more than one wildcard. That the
transport fails to open in Start is DEDUCED from R406 (the log, row 16); 34 transitions reach every state
that can be reached. -/
def rulesMemberships (rules : List Rule) : Bool :=
  leads rules .initialise .disable && leads rules .connected .vendValid &&
  leads rules .start .connected && leads rules .start .comError &&
  ((reachable rules 34 [.accepting]).any fun s => leads rules s .enable) &&
  (rules.any fun r => r.tgt == .stacking) &&
  (normalEvents.all fun ev => rules.any fun r => r.ev == ev && r.src.admits .badFrame) &&
  decide (2 ≤ rules.countP fun r => r.src == .wildcard)

/-- What must be in place before the rules hold (R404, R263). -/
def Params.wf (p : Params) : Bool :=
  templatesWf p && rspWf p && rulesWf p.rules && rulesMemberships p.rules

/-! ### Instructions -/

/-- A payload fits in a frame (R90). -/
def payloadWf (payload : Bytes) : Bool := decide (payload.length ≤ Config.maxPayload)

/-- A response whose opcode the response table gives that name (R100). -/
def responseWf (p : Params) (name : RspName) (opcode : Byte) (payload : Bytes) : Bool :=
  payloadWf payload && rspLookup p opcode == some name

/-- A response of the path family, with the kind its sub-code selects (R105, R240). -/
def pathWf (p : Params) (kind : Option Kind) (opcode : Byte) (payload : Bytes) : Bool :=
  responseWf p .currencypath opcode payload && pathKind p payload == kind

/-- The commands before a given one in the order of the ids. -/
def CmdName.before (c : CmdName) : List CmdName := CmdName.all.takeWhile (· != c)

/-- Whether a command's template, of the command's own shape, matches an image. -/
def commandMatches (p : Params) (image : Bytes) (c : CmdName) : Bool :=
  match templateLookup p c with
  | none => false
  | some t => t.slots.isSome == c.parametric && matchesTemplate t image

/-- A command that its image stands for: it has a template of its shape (R150), its slots are distinct and
before the trailer, and no earlier command's template matches the image. -/
def commandWf (p : Params) (c : CmdName) (p0 p1 : Byte) : Bool :=
  match templateLookup p c with
  | none => false
  | some t =>
    t.slots.isSome == c.parametric &&
    (match t.slots with
      | none => true
      | some (i, j) => i != j && decide (i + 2 < t.bytes.length) && decide (j + 2 < t.bytes.length)) &&
    c.before.all fun c' => !commandMatches p (commandImage p.crc t p0 p1) c'

/-- Whether an instruction is one that an encoding of the spec stands for, under given parameters. -/
def WellFormed (p : Params) : Instr → Bool
  | .cmdStatus => commandWf p .status 0 0
  | .cmdVersion => commandWf p .version 0 0
  | .cmdDenominations => commandWf p .denominations 0 0
  | .cmdAck => commandWf p .ack 0 0
  | .cmdReset => commandWf p .reset 0 0
  | .cmdStack => commandWf p .stack 0 0
  | .cmdReject => commandWf p .reject 0 0
  | .cmdInhibit => commandWf p .inhibit 0 0
  | .cmdUnInhibit => commandWf p .unInhibit 0 0
  | .cmdEmergency => commandWf p .emergency 0 0
  | .cmdCount => commandWf p .count 0 0
  | .cmdCurrencypath path1 path2 => commandWf p .currencypath path1 path2
  | .cmdSetCount count box => commandWf p .setCount count box
  | .cmdSetCurrentCount count box => commandWf p .setCurrentCount count box
  | .cmdPayout count box => commandWf p .payout count box
  | .rspEnable opcode payload => responseWf p .enable opcode payload
  | .rspAccepting opcode payload => responseWf p .accepting opcode payload
  | .rspEscrow opcode payload => responseWf p .escrow opcode payload
  | .rspStacking opcode payload => responseWf p .stacking opcode payload
  | .rspVendValid opcode payload => responseWf p .vendValid opcode payload
  | .rspStacked opcode payload => responseWf p .stacked opcode payload
  | .rspRejecting opcode payload => responseWf p .rejecting opcode payload
  | .rspReturning opcode payload => responseWf p .returning opcode payload
  | .rspDisable opcode payload => responseWf p .disable opcode payload
  | .rspInitialize opcode payload => responseWf p .initialise opcode payload
  | .rspPowerUp opcode payload => responseWf p .powerUp opcode payload
  | .rspStackerFull opcode payload => responseWf p .stackerFull opcode payload
  | .rspStackerOpen opcode payload => responseWf p .stackerOpen opcode payload
  | .rspAcceptorJam opcode payload => responseWf p .acceptorJam opcode payload
  | .rspStackerJam opcode payload => responseWf p .stackerJam opcode payload
  | .rspPaused opcode payload => responseWf p .paused opcode payload
  | .rspCheated opcode payload => responseWf p .cheated opcode payload
  | .rspFailure opcode payload => responseWf p .failure opcode payload
  | .rspComError opcode payload => responseWf p .comError opcode payload
  | .rspInvalidCommand opcode payload => responseWf p .invalidCommand opcode payload
  | .rspAck opcode payload => responseWf p .ack opcode payload
  | .rspVersion opcode payload => responseWf p .version opcode payload
  | .rspDenominations opcode payload => responseWf p .denominations opcode payload
  | .rspInhibit opcode payload => responseWf p .inhibit opcode payload
  | .rspPaying opcode payload => responseWf p .paying opcode payload
  | .rspPayStay opcode payload => responseWf p .payStay opcode payload
  | .rspPayValid opcode payload => responseWf p .payValid opcode payload
  | .rspRecyclerUnitFailure opcode payload => responseWf p .recyclerUnitFailure opcode payload
  | .rspPathCurrencypath opcode payload => pathWf p (some .currencyPath) opcode payload
  | .rspPathCount opcode payload => pathWf p (some .count) opcode payload
  | .rspPathSetCount opcode payload => pathWf p (some .setCount) opcode payload
  | .rspPathSetCurrentCount opcode payload => pathWf p (some .setCurrentCount) opcode payload
  | .rspPathUnrecognised opcode payload => pathWf p none opcode payload
  | .rspUnknown opcode payload => payloadWf payload && rspLookup p opcode == none
  | .rxTooShort len rest => decide (len.toNat < Config.minFrame) && rest.length + 2 == frameSize len
  | .rxCrcMismatch opcode payload trailer =>
    payloadWf payload && crc16 p.crc (frameHead opcode payload) != trailer
  | .opReset => true
  | .opCrcClear => true
  | .opCrcByte _ => true
  | .opCrcRead => true
  | .opTxEncode _ _ _ => true
  | .opRxChunk _ => true
  | .opRxByte _ => true
  | .opFsmEvent _ _ => true
  | .opStuckFire => true
  | .opFsmNew => true
  | .opSessionRefresh => true
  | .opRxDeliver _ => true
  | .opHostEvent _ => true
  | .opHostEnable => true
  | .opHostDisable => true
  | .opHostStack => true
  | .opHostReject => true
  | .opHostEmergency => true
  | .opHostCount => true
  | .opHostCurrencypath _ _ => true
  | .opHostSetcount _ _ => true
  | .opHostSetcurrentcount _ _ => true
  | .opHostPayout _ _ => true
  | .opHostStatus => true
  | .opHostVersion => true

end Sys2Proof
end

