-- ==== Sys2Proof/Decode.lean ====
section
/-! DEFINITION. The decoder, total on any bytes, and after it the encoder. A received frame decodes by
42_rx_ingest.md R194 to R196 and 43_payload_decode.md R240, a command image by the opcode table's match
and mask over the templates (30_encoding.md R95, R97), an operation is selected by its strobe
(00_scope.md R10). -/

namespace Sys2Proof

/-! ### Received frames -/

/-- The row of a response of the path family (R240, R242 to R246). -/
def pathInstr (kind : Option Kind) (opcode : Byte) (payload : Bytes) : Instr :=
  match kind with
  | some .currencyPath => .rspPathCurrencypath opcode payload
  | some .count => .rspPathCount opcode payload
  | some .setCount => .rspPathSetCount opcode payload
  | some .setCurrentCount => .rspPathSetCurrentCount opcode payload
  | none => .rspPathUnrecognised opcode payload

/-- The row of a response name (R110). The names `setCount`, `setCurrentCount` and `count` are never
values of a well-formed table (R100); they are read as the shared opcode (the log, row 9). -/
def responseInstr (p : Params) (name : RspName) (opcode : Byte) (payload : Bytes) : Instr :=
  match name with
  | .enable => .rspEnable opcode payload
  | .accepting => .rspAccepting opcode payload
  | .escrow => .rspEscrow opcode payload
  | .stacking => .rspStacking opcode payload
  | .vendValid => .rspVendValid opcode payload
  | .stacked => .rspStacked opcode payload
  | .rejecting => .rspRejecting opcode payload
  | .returning => .rspReturning opcode payload
  | .disable => .rspDisable opcode payload
  | .initialise => .rspInitialize opcode payload
  | .powerUp => .rspPowerUp opcode payload
  | .stackerFull => .rspStackerFull opcode payload
  | .stackerOpen => .rspStackerOpen opcode payload
  | .acceptorJam => .rspAcceptorJam opcode payload
  | .stackerJam => .rspStackerJam opcode payload
  | .paused => .rspPaused opcode payload
  | .cheated => .rspCheated opcode payload
  | .failure => .rspFailure opcode payload
  | .comError => .rspComError opcode payload
  | .invalidCommand => .rspInvalidCommand opcode payload
  | .ack => .rspAck opcode payload
  | .version => .rspVersion opcode payload
  | .denominations => .rspDenominations opcode payload
  | .inhibit => .rspInhibit opcode payload
  | .paying => .rspPaying opcode payload
  | .payStay => .rspPayStay opcode payload
  | .payValid => .rspPayValid opcode payload
  | .recyclerUnitFailure => .rspRecyclerUnitFailure opcode payload
  | .currencypath => pathInstr (pathKind p payload) opcode payload
  | .setCount => pathInstr (pathKind p payload) opcode payload
  | .setCurrentCount => pathInstr (pathKind p payload) opcode payload
  | .count => pathInstr (pathKind p payload) opcode payload

/-- The row of a delimited frame (R194 to R196). -/
def frameInstr (p : Params) (frame : Bytes) : Instr :=
  match classify p frame with
  | .tooShort => .rxTooShort (frame.getD 1 0) (frame.drop 2)
  | .crcMismatch => .rxCrcMismatch (frame.getD 2 0) (framePayload frame) (frameTrailer frame)
  | .unknown opcode payload => .rspUnknown opcode payload
  | .response name opcode payload => responseInstr p name opcode payload

/-! ### Command images -/

/-- The row of a command (R97); `p0` and `p1` are the parameters of a parametric one (R96). -/
def commandInstr (c : CmdName) (p0 p1 : Byte) : Instr :=
  match c with
  | .status => .cmdStatus
  | .version => .cmdVersion
  | .denominations => .cmdDenominations
  | .ack => .cmdAck
  | .reset => .cmdReset
  | .stack => .cmdStack
  | .reject => .cmdReject
  | .inhibit => .cmdInhibit
  | .unInhibit => .cmdUnInhibit
  | .emergency => .cmdEmergency
  | .count => .cmdCount
  | .currencypath => .cmdCurrencypath p0 p1
  | .setCount => .cmdSetCount p0 p1
  | .setCurrentCount => .cmdSetCurrentCount p0 p1
  | .payout => .cmdPayout p0 p1

/-- The parameter bytes of an image (R95, R96). -/
def imageParams (t : Template) (image : Bytes) : Byte × Byte :=
  match t.slots with
  | none => (0, 0)
  | some (i, j) => (image.getD i 0, image.getD j 0)

/-- The command an image stands for: the first, in the order of the ids, whose template matches. -/
def decodeImage (p : Params) (image : Bytes) : Option Instr :=
  match CmdName.all.find? (commandMatches p image) with
  | none => none
  | some c =>
    (templateLookup p c).map fun t =>
      commandInstr c (imageParams t image).1 (imageParams t image).2

/-! ### Stimuli -/

/-- Whether an instruction is an operation, selected by a strobe (R10). -/
def Instr.isOperation : Instr → Bool
  | .cmdStatus => false
  | .cmdVersion => false
  | .cmdDenominations => false
  | .cmdAck => false
  | .cmdReset => false
  | .cmdStack => false
  | .cmdReject => false
  | .cmdInhibit => false
  | .cmdUnInhibit => false
  | .cmdEmergency => false
  | .cmdCount => false
  | .cmdCurrencypath _ _ => false
  | .cmdSetCount _ _ => false
  | .cmdSetCurrentCount _ _ => false
  | .cmdPayout _ _ => false
  | .rspEnable _ _ => false
  | .rspAccepting _ _ => false
  | .rspEscrow _ _ => false
  | .rspStacking _ _ => false
  | .rspVendValid _ _ => false
  | .rspStacked _ _ => false
  | .rspRejecting _ _ => false
  | .rspReturning _ _ => false
  | .rspDisable _ _ => false
  | .rspInitialize _ _ => false
  | .rspPowerUp _ _ => false
  | .rspStackerFull _ _ => false
  | .rspStackerOpen _ _ => false
  | .rspAcceptorJam _ _ => false
  | .rspStackerJam _ _ => false
  | .rspPaused _ _ => false
  | .rspCheated _ _ => false
  | .rspFailure _ _ => false
  | .rspComError _ _ => false
  | .rspInvalidCommand _ _ => false
  | .rspAck _ _ => false
  | .rspVersion _ _ => false
  | .rspDenominations _ _ => false
  | .rspInhibit _ _ => false
  | .rspPaying _ _ => false
  | .rspPayStay _ _ => false
  | .rspPayValid _ _ => false
  | .rspRecyclerUnitFailure _ _ => false
  | .rspPathCurrencypath _ _ => false
  | .rspPathCount _ _ => false
  | .rspPathSetCount _ _ => false
  | .rspPathSetCurrentCount _ _ => false
  | .rspPathUnrecognised _ _ => false
  | .rspUnknown _ _ => false
  | .rxTooShort _ _ => false
  | .rxCrcMismatch _ _ _ => false
  | .opReset => true
  | .opCrcClear => true
  | .opCrcByte _ => true
  | .opCrcRead => true
  | .opTxEncode _ _ _ => true
  | .opRxChunk _ => true
  | .opRxByte _ => true
  | .opFsmEvent _ _ => true
  | .opStuckFire => true
  | .opFsmNew => true
  | .opSessionRefresh => true
  | .opRxDeliver _ => true
  | .opHostEvent _ => true
  | .opHostEnable => true
  | .opHostDisable => true
  | .opHostStack => true
  | .opHostReject => true
  | .opHostEmergency => true
  | .opHostCount => true
  | .opHostCurrencypath _ _ => true
  | .opHostSetcount _ _ => true
  | .opHostSetcurrentcount _ _ => true
  | .opHostPayout _ _ => true
  | .opHostStatus => true
  | .opHostVersion => true

/-- Why a stimulus names no instruction. -/
inductive Reject where
  /-- an image that no command's template matches -/
  | unknownImage
  /-- a strobe that names a wire row: such rows arrive as bytes -/
  | notAnOperation
deriving DecidableEq, Repr

/-- The instruction a stimulus stands for, given the parameters and the receive buffer. A notification
that carries exactly one delimited frame while nothing is buffered is that frame's row of the opcode
table; any other notification is `RX_DELIVER` of its bytes (the log, row 22). -/
def decode (p : Params) (rxBuf : Bytes) : Stimulus → Except Reject Instr
  | .rx chunk =>
    if rxBuf.isEmpty && isOneFrame chunk then .ok (frameInstr p chunk) else .ok (.opRxDeliver chunk)
  | .image bytes =>
    match decodeImage p bytes with
    | some i => .ok i
    | none => .error .unknownImage
  | .strobe i => if i.isOperation then .ok i else .error .notAnOperation

/-! ### The encoder -/

/-- The image of a command that has a template of its shape (R95, R151). -/
def encodeCommand (p : Params) (c : CmdName) (p0 p1 : Byte) : Option Bytes :=
  match templateLookup p c with
  | none => none
  | some t => if t.slots.isSome == c.parametric then some (commandImage p.crc t p0 p1) else none

/-- The stimulus that stands for an instruction: a command's image, a received frame's bytes, an
operation's strobe. `none` for a command without a template of its shape. -/
def encode (p : Params) : Instr → Option Stimulus
  | .cmdStatus => (encodeCommand p .status 0 0).map .image
  | .cmdVersion => (encodeCommand p .version 0 0).map .image
  | .cmdDenominations => (encodeCommand p .denominations 0 0).map .image
  | .cmdAck => (encodeCommand p .ack 0 0).map .image
  | .cmdReset => (encodeCommand p .reset 0 0).map .image
  | .cmdStack => (encodeCommand p .stack 0 0).map .image
  | .cmdReject => (encodeCommand p .reject 0 0).map .image
  | .cmdInhibit => (encodeCommand p .inhibit 0 0).map .image
  | .cmdUnInhibit => (encodeCommand p .unInhibit 0 0).map .image
  | .cmdEmergency => (encodeCommand p .emergency 0 0).map .image
  | .cmdCount => (encodeCommand p .count 0 0).map .image
  | .cmdCurrencypath path1 path2 => (encodeCommand p .currencypath path1 path2).map .image
  | .cmdSetCount count box => (encodeCommand p .setCount count box).map .image
  | .cmdSetCurrentCount count box => (encodeCommand p .setCurrentCount count box).map .image
  | .cmdPayout count box => (encodeCommand p .payout count box).map .image
  | .rspEnable opcode payload => some (.rx (frameOf p opcode payload))
  | .rspAccepting opcode payload => some (.rx (frameOf p opcode payload))
  | .rspEscrow opcode payload => some (.rx (frameOf p opcode payload))
  | .rspStacking opcode payload => some (.rx (frameOf p opcode payload))
  | .rspVendValid opcode payload => some (.rx (frameOf p opcode payload))
  | .rspStacked opcode payload => some (.rx (frameOf p opcode payload))
  | .rspRejecting opcode payload => some (.rx (frameOf p opcode payload))
  | .rspReturning opcode payload => some (.rx (frameOf p opcode payload))
  | .rspDisable opcode payload => some (.rx (frameOf p opcode payload))
  | .rspInitialize opcode payload => some (.rx (frameOf p opcode payload))
  | .rspPowerUp opcode payload => some (.rx (frameOf p opcode payload))
  | .rspStackerFull opcode payload => some (.rx (frameOf p opcode payload))
  | .rspStackerOpen opcode payload => some (.rx (frameOf p opcode payload))
  | .rspAcceptorJam opcode payload => some (.rx (frameOf p opcode payload))
  | .rspStackerJam opcode payload => some (.rx (frameOf p opcode payload))
  | .rspPaused opcode payload => some (.rx (frameOf p opcode payload))
  | .rspCheated opcode payload => some (.rx (frameOf p opcode payload))
  | .rspFailure opcode payload => some (.rx (frameOf p opcode payload))
  | .rspComError opcode payload => some (.rx (frameOf p opcode payload))
  | .rspInvalidCommand opcode payload => some (.rx (frameOf p opcode payload))
  | .rspAck opcode payload => some (.rx (frameOf p opcode payload))
  | .rspVersion opcode payload => some (.rx (frameOf p opcode payload))
  | .rspDenominations opcode payload => some (.rx (frameOf p opcode payload))
  | .rspInhibit opcode payload => some (.rx (frameOf p opcode payload))
  | .rspPaying opcode payload => some (.rx (frameOf p opcode payload))
  | .rspPayStay opcode payload => some (.rx (frameOf p opcode payload))
  | .rspPayValid opcode payload => some (.rx (frameOf p opcode payload))
  | .rspRecyclerUnitFailure opcode payload => some (.rx (frameOf p opcode payload))
  | .rspPathCurrencypath opcode payload => some (.rx (frameOf p opcode payload))
  | .rspPathCount opcode payload => some (.rx (frameOf p opcode payload))
  | .rspPathSetCount opcode payload => some (.rx (frameOf p opcode payload))
  | .rspPathSetCurrentCount opcode payload => some (.rx (frameOf p opcode payload))
  | .rspPathUnrecognised opcode payload => some (.rx (frameOf p opcode payload))
  | .rspUnknown opcode payload => some (.rx (frameOf p opcode payload))
  | .rxTooShort len rest => some (.rx (Config.sync :: len :: rest))
  | .rxCrcMismatch opcode payload trailer => some (.rx (frameWith opcode payload trailer))
  | .opReset => some (.strobe (.opReset))
  | .opCrcClear => some (.strobe (.opCrcClear))
  | .opCrcByte b => some (.strobe (.opCrcByte b))
  | .opCrcRead => some (.strobe (.opCrcRead))
  | .opTxEncode id p0 p1 => some (.strobe (.opTxEncode id p0 p1))
  | .opRxChunk chunk => some (.strobe (.opRxChunk chunk))
  | .opRxByte b => some (.strobe (.opRxByte b))
  | .opFsmEvent ev data => some (.strobe (.opFsmEvent ev data))
  | .opStuckFire => some (.strobe (.opStuckFire))
  | .opFsmNew => some (.strobe (.opFsmNew))
  | .opSessionRefresh => some (.strobe (.opSessionRefresh))
  | .opRxDeliver chunk => some (.strobe (.opRxDeliver chunk))
  | .opHostEvent code => some (.strobe (.opHostEvent code))
  | .opHostEnable => some (.strobe (.opHostEnable))
  | .opHostDisable => some (.strobe (.opHostDisable))
  | .opHostStack => some (.strobe (.opHostStack))
  | .opHostReject => some (.strobe (.opHostReject))
  | .opHostEmergency => some (.strobe (.opHostEmergency))
  | .opHostCount => some (.strobe (.opHostCount))
  | .opHostCurrencypath path1 path2 => some (.strobe (.opHostCurrencypath path1 path2))
  | .opHostSetcount count box => some (.strobe (.opHostSetcount count box))
  | .opHostSetcurrentcount count box => some (.strobe (.opHostSetcurrentcount count box))
  | .opHostPayout count box => some (.strobe (.opHostPayout count box))
  | .opHostStatus => some (.strobe (.opHostStatus))
  | .opHostVersion => some (.strobe (.opHostVersion))

/-! ### Words of the opcode table -/

/-- The bytes of a word, bit 0 the least significant bit of the first byte. -/
def wordBytes (n w : Nat) : Bytes := (List.range n).map fun k => BitVec.ofNat 8 (w >>> (8 * k))

/-- Bytes cut or filled with zeros to a length. -/
def padTo (n : Nat) (bs : Bytes) : Bytes := (bs ++ List.replicate n 0).take n

/-- The table's hexadecimal strings are in wire order; a word whose first byte is not the sync byte but
whose last is has been read as one number, and is turned round (the log, row 23). -/
def wireOrder (bs : Bytes) : Bytes :=
  if bs.head? != some Config.sync && bs.getLast? == some Config.sync then bs.reverse else bs

/-- A received frame from the bytes a table row gives: a masked-out length byte (0 in a word that has an
opcode) becomes that of the bytes given, what is missing is zero, and the check field of a frame
whose trailer the word does not hold is its CRC (the log, row 23). -/
def completeFrame (p : Params) (bs : Bytes) : Bytes :=
  let given := bs.getD 1 0
  let len : Byte := if given == 0 && decide (3 ≤ bs.length) then BitVec.ofNat 8 (bs.length + 2) else given
  let frame := padTo (frameSize len) (bs.set 1 len)
  if decide (len.toNat < Config.minFrame) || decide (len.toNat ≤ bs.length) then frame
  else sealTrailer p.crc frame

/-- The stimulus a word of the opcode table stands for: a command's image if one matches, else a received
frame if it begins with the sync byte. -/
def tableStimulus (p : Params) (nbits w : Nat) : Stimulus :=
  let bs := wireOrder (wordBytes ((nbits + 7) / 8) w)
  let image := padTo (bs.getD 1 0).toNat bs
  if (decodeImage p image).isSome then .image image
  else if bs.head? == some Config.sync && decide (2 ≤ bs.length) then .rx (completeFrame p bs)
  else .image bs

/-- The instruction the decoder reads from a word of the opcode table, under the parameters of
`State.reset`. -/
def decodeTableWord (nbits w : Nat) : Option Instr :=
  match decode defaultParams [] (tableStimulus defaultParams nbits w) with
  | .ok i => some i
  | .error _ => none

end Sys2Proof
end

