-- ==== Sys2Proof/Machine/State.lean ====
section
/-! DEFINITION. The machine's state as plain data (10_state.md R20 to R36), its outputs (00_scope.md R8,
R11), the reasons a step can stop, and the state after reset. -/

namespace Sys2Proof.Machine

/-! ### Outputs -/

/-- Why a frame is malformed (R190). -/
inductive MalformedReason where
  | crcMismatch | tooShort
deriving DecidableEq, Repr

/-- The outcome of parsing one frame (R190). -/
inductive FrameOutcome where
  | decoded (name : RspName) (override : Option RspName) (data : EventData) (opcode : Byte)
      (payload : Bytes)
  | malformed (reason : MalformedReason)
  | unknownResponse (opcode : Byte) (payload : Bytes)
deriving DecidableEq, Repr

/-- The reason a `billRejected` carries: one of the table's, or `Returned`, which exists only there
(R281, R282). -/
inductive BillReason where
  | table (r : ReasonName)
  | returned
deriving DecidableEq, Repr

/-- The 22 domain events (R111). A payload that the hook reads from event data of another shape is `none`
(R302; the log, row 20). -/
inductive DomainEvent where
  | powerUp
  | ready
  | denominations (entries : Option (List DenomEntry))
  | version (text : Option Bytes)
  | onpaystay
  | onpayvalid
  | standby
  | billAccepted
  | billRejected (reason : Option BillReason) (code : Option Byte)
  | billRead (denomination : Option (Byte × Byte)) (code : Option Byte)
  | billStacked (path : Option Byte)
  | pathCurrency (d : Option PathData)
  | pathSetCount (d : Option PathData)
  | pathSetCurrentCount (d : Option PathData)
  | pathCount (d : Option PathData)
  | billValid
  | stackerOpen
  | stackerFull
  | acceptorJam
  | stackerJam
  | cheated
  | stuck
deriving DecidableEq, Repr

/-- Diagnostic records (R8). -/
inductive Diag where
  /-- `dispatch(id, p0, p1)`; a parameter the rules write "-" is `none` (R156; the log, row 5) -/
  | dispatch (id : BitVec 4) (p0 p1 : Option Byte)
  /-- `invalid_transition(ev, state)`, the event by its code (R266, R267; the log, row 21) -/
  | invalidTransition (code : BitVec 6) (state : StateName)
  /-- the reason of a malformed frame (R333; the log, row 19) -/
  | malformed (reason : MalformedReason)
deriving DecidableEq, Repr

/-- The result of an event (R11 `ev_result`, R266). -/
inductive EvResult where
  | ok | invalidTransition
deriving DecidableEq, Repr

/-- One output of the block (R8, R11). -/
inductive Output where
  /-- the frame-out port: a frame outcome was produced -/
  | frame (o : FrameOutcome)
  /-- the `msg_seen` pulse -/
  | msgSeen
  /-- a domain event, on `emit_valid` or as a result of `FSM_EVENT` -/
  | emit (e : DomainEvent)
  /-- a command a hook requests, as a result of `FSM_EVENT` -/
  | request (c : CmdName)
  /-- a diagnostic record -/
  | diag (d : Diag)
  /-- the bytes of one encoded command, in index order -/
  | tx (bytes : Bytes)
  /-- `tx_err`: `UnknownCommand(id)` -/
  | txErr (id : BitVec 4)
  /-- `ev_result` -/
  | result (r : EvResult)
  /-- the `stuck_start` pulse -/
  | stuckStart
  /-- the unknown-opcode report -/
  | unkRsp (opcode : Byte)
  /-- the value `CRC_READ` returns -/
  | crcRead (v : Word)
deriving DecidableEq, Repr

/-! ### The state -/

/-- The denomination table's map: its entries, codes strictly rising; a code without an entry reads
`none` (R30; the log, row 31). -/
abbrev DenomTab := List DenomEntry

/-- Everything the block holds (R20), the frame-out port's register (R11, R60), the parameters (R5), and
the model's own three fields (INVENTORY.md). -/
structure State where
  /-- `crc_acc` (R21) -/
  crcAcc : Word
  /-- `rx_buf` (R23) -/
  rxBuf : Bytes
  /-- `fsm_state` (R26) -/
  fsmState : StateName
  /-- `disable_flag` (R27) -/
  disableFlag : Bool
  /-- `stuck_armed` (R28) -/
  stuckArmed : Bool
  /-- `stuck_fired` (R29) -/
  stuckFired : Bool
  /-- `denom_tab` (R30) -/
  denomTab : Option DenomTab
  /-- `sw_version` (R31) -/
  swVersion : Option Bytes
  /-- the last frame outcome, which the frame-out port shows (R11, R60); `none` when there has been no frame
  since reset, and the port's signals then read 0 (Machine/Ports.lean; the log, rows 4 and 36) -/
  frm : Option FrameOutcome
  /-- the parameters of R5, which no instruction writes (the log, row 1) -/
  cfg : Params
  /-- MODEL'S OWN: the stimuli that have arrived and are not yet processed (the log, row 2) -/
  inbox : List Stimulus
  /-- MODEL'S OWN: every output so far, in order (the log, row 3) -/
  out : List Output
  /-- MODEL'S OWN: how many free bytes have been used (the log, rows 5 and 6) -/
  freeCount : Nat
deriving DecidableEq, Repr

/-- No operation of the block stops the machine: there is no trap, and every operation is total
(R10, R368; the log, row 32). -/
inductive Fault where
deriving DecidableEq, Repr

/-- Why a step gives no next state. -/
inductive Refusal where
  /-- raised by `exec` for an instruction without a meaning; no arm does. Safe: nothing is claimed. -/
  | notModelled (mnemonic : String)
  /-- raised by `step` for a command asked for by an image that no command's template matches: no
  instruction is named (the log, row 24). Safe: nothing is claimed. -/
  | unknownImage
  /-- raised by `step` for a strobe that names a wire row; such a row arrives as bytes (the log, row 24).
  Safe: nothing is claimed. -/
  | notAnOperation
deriving DecidableEq, Repr

/-- The machine right after `RESET` (R36, R400), with the default parameters (the log, rows 11 to 17),
nothing received and nothing sent. -/
def State.reset : State :=
  { crcAcc := defaultParams.crc.init
    rxBuf := []
    fsmState := .start
    disableFlag := false
    stuckArmed := false
    stuckFired := false
    denomTab := none
    swVersion := none
    frm := none
    cfg := defaultParams
    inbox := []
    out := []
    freeCount := 0 }

end Sys2Proof.Machine
end

