-- ==== Sys2Proof/Machine/Flags.lean ====
section
/-! DEFINITION. The hook table (44_fsm.md R270 to R298, R301): what leaving and entering each state emits
and dispatches, and what it does to `disable_flag` and `stuck_armed`. Pure functions of the state
left, the state entered, the event data and the flags. -/

namespace Sys2Proof.Machine

/-! ### Flags -/

/-- `disable_flag` after the exit hook of a state (R272). -/
def exitFlag (src : StateName) (flag : Bool) : Bool :=
  match src with
  | .disable => false
  | _ => flag

/-- `disable_flag` after the entry hook of a state (R278, R279). -/
def entryFlag (t : StateName) (flag : Bool) : Bool :=
  match t with
  | .enable => false
  | .disable => false
  | _ => flag

/-- Whether the generic entry hook arms the stuck timer (R290, R291). -/
def entryArms (mode : StuckMode) (t : StateName) : Bool :=
  match mode with
  | .byState => t.transient
  | .never => false

/-! ### Emits and dispatches -/

/-- What the exit hook of a state emits (R271). -/
def exitEmits (src : StateName) : List DomainEvent :=
  match src with
  | .connected => [.ready]
  | _ => []

/-- The entries of a `DenomData` (R274, R302). -/
def dataEntries : EventData → Option (List DenomEntry)
  | .denoms es => some es
  | _ => none

/-- The text of a `VersionData` (R275, R302). -/
def dataText : EventData → Option Bytes
  | .version text => some text
  | _ => none

/-- A `PathData` (R285 to R288, R302). -/
def dataPath : EventData → Option PathData
  | .path d => some d
  | _ => none

/-- `billRejected` of a `RejectData` (R281, R302). -/
def dataRejected : EventData → DomainEvent
  | .reject code reason => .billRejected (reason.map .table) code
  | _ => .billRejected none none

/-- `billRead` of an `EscrowData` (R283, R302). -/
def dataRead : EventData → DomainEvent
  | .escrow code denomination => .billRead denomination code
  | _ => .billRead none none

/-- `billStacked` of a `StackedData` (R284, R302). -/
def dataStacked : EventData → DomainEvent
  | .stacked path => .billStacked path
  | _ => .billStacked none

/-- What the entry hook of `t`, entered from `src` with `data`, emits (R273 to R289, R293 to R298). -/
def entryEmits (t src : StateName) (data : EventData) : List DomainEvent :=
  match t with
  | .powerUp => [.powerUp]
  | .denominations => [.denominations (dataEntries data)]
  | .version => [.version (dataText data)]
  | .payStay => [.onpaystay]
  | .payValid => [.onpayvalid]
  | .disable => if src = .initialise then [.standby] else []
  | .accepting => [.billAccepted]
  | .rejecting => [dataRejected data]
  | .returning => [.billRejected (some .returned) none]
  | .escrow => [dataRead data]
  | .stacked => [dataStacked data]
  | .currencyPath => [.pathCurrency (dataPath data)]
  | .setCount => [.pathSetCount (dataPath data)]
  | .setCurrentCount => [.pathSetCurrentCount (dataPath data)]
  | .count => [.pathCount (dataPath data)]
  | .vendValid => if src = .connected then [] else [.billValid]
  | .stackerOpen => [.stackerOpen]
  | .stackerFull => [.stackerFull]
  | .acceptorJam => [.acceptorJam]
  | .stackerJam => [.stackerJam]
  | .cheated => [.cheated]
  | .start => []
  | .connected => []
  | .refresh => []
  | .initialise => []
  | .enable => []
  | .stacking => []
  | .failure => []
  | .comError => []
  | .badFrame => []
  | .paying => []
  | .invalidCommand => []
  | .recyclerUnitFailure => []
  | .paused => []

/-- What the entry hook of `t`, entered from `src` with `disable_flag` at `flag`, dispatches (R277, R278,
R289). -/
def entryDispatches (t src : StateName) (flag : Bool) : List CmdName :=
  match t with
  | .payValid => [.ack]
  | .enable => if flag then [.inhibit] else []
  | .vendValid => if src = .connected then [.reset] else [.ack]
  | _ => []

end Sys2Proof.Machine
end

