-- ==== Sys2Proof/Machine/Operands.lean ====
section
/-! DEFINITION. What an instruction's operands stand for: the typed payload of each response
(43_payload_decode.md R230 to R246, R463), the fields of a path payload, and reads of the denomination
table. Pure functions; none writes state. -/

namespace Sys2Proof.Machine

/-! ### The denomination table -/

/-- `m[c]` (R30): the significand and exponent bytes of a code, `none` for a code without an entry. -/
def tabLookup (m : DenomTab) (c : Byte) : Option (Byte × Byte) :=
  (m.find? fun e => e.code == c).map fun e => (e.sig, e.exp)

/-- `m[code] <- (sig, exp)` (R336), keeping the codes strictly rising: a later entry with the same code
replaces an earlier one. -/
def tabInsert (e : DenomEntry) : DenomTab → DenomTab
  | [] => [e]
  | d :: m =>
    if e.code.toNat < d.code.toNat then e :: d :: m
    else if e.code = d.code then e :: m
    else d :: tabInsert e m

/-- The map built from a list of entries, in order (R336). -/
def tabBuild (entries : List DenomEntry) : DenomTab :=
  entries.foldl (fun m e => tabInsert e m) []

/-- The canonical form: codes strictly rising. -/
def tabWf (m : DenomTab) : Bool := decide (m.Pairwise fun a b => a.code.toNat < b.code.toNat)

/-- The currency value of an entry, an unbounded natural (R30, R233). -/
def denomValue (d : Byte × Byte) : Nat := d.1.toNat * 10 ^ d.2.toNat

/-! ### Payloads -/

/-- `EscrowData` (R231); reads `denom_tab`. -/
def escrowData (tab : Option DenomTab) (payload : Bytes) : EventData :=
  .escrow payload[0]? (payload[0]?.bind fun c => tab.bind fun m => tabLookup m c)

/-- `RejectData` (R232). -/
def rejectData (p : Params) (payload : Bytes) : EventData :=
  .reject payload[0]? (payload[0]?.bind (rejLookup p))

/-- The entries of a `denominations` payload (R233): runs of four bytes, the second ignored, entries with
significand 0 and trailing bytes left out. -/
def denomEntries : Bytes → List DenomEntry
  | code :: _ :: sig :: exp :: rest =>
    if sig = 0 then denomEntries rest else ⟨code, sig, exp⟩ :: denomEntries rest
  | _ => []

/-- One optional field of a path payload (R241). -/
def pathField (payload : Bytes) (offset : Option Nat) : Option Byte :=
  offset.bind fun i => payload[i]?

/-- `PathData` of a kind (R241 to R246); with no kind all fields but `raw` are `none` (R244). -/
def pathData (p : Params) (kind : Option Kind) (payload : Bytes) : PathData :=
  match kind with
  | none => { kind := none, status := none, a := none, b := none, raw := payload }
  | some k =>
    { kind := some k
      status := pathField payload (layoutLookup p k).status
      a := pathField payload (layoutLookup p k).a
      b := pathField payload (layoutLookup p k).b
      raw := payload }

/-- The override of the path family (R242 to R246). -/
def pathOverride : Option Kind → Option RspName
  | some .count => some .count
  | some .setCount => some .setCount
  | some .setCurrentCount => some .setCurrentCount
  | some .currencyPath => none
  | none => none

/-! ### Outcomes -/

/-- A response without a decoded payload (R463). -/
def plainResponse (name : RspName) (opcode : Byte) (payload : Bytes) : FrameOutcome :=
  .decoded name none .noData opcode payload

/-- `escrow` (R231). -/
def escrowResponse (tab : Option DenomTab) (opcode : Byte) (payload : Bytes) : FrameOutcome :=
  .decoded .escrow none (escrowData tab payload) opcode payload

/-- `rejecting` (R232). -/
def rejectingResponse (p : Params) (opcode : Byte) (payload : Bytes) : FrameOutcome :=
  .decoded .rejecting none (rejectData p payload) opcode payload

/-- `denominations` (R233). -/
def denominationsResponse (opcode : Byte) (payload : Bytes) : FrameOutcome :=
  .decoded .denominations none (.denoms (denomEntries payload)) opcode payload

/-- `version` (R234). -/
def versionResponse (opcode : Byte) (payload : Bytes) : FrameOutcome :=
  .decoded .version none (.version payload) opcode payload

/-- `stacked` (R235). -/
def stackedResponse (opcode : Byte) (payload : Bytes) : FrameOutcome :=
  .decoded .stacked none (.stacked payload[0]?) opcode payload

/-- The path family, with the kind already selected (R242 to R246). -/
def pathResponse (p : Params) (kind : Option Kind) (opcode : Byte) (payload : Bytes) : FrameOutcome :=
  .decoded .currencypath (pathOverride kind) (.path (pathData p kind payload)) opcode payload

/-- `DECODE(name, opcode, payload)` (R230). The three names that only an override gives are read as the
shared opcode (R100; the log, row 9). -/
def decodeResponse (p : Params) (tab : Option DenomTab) (name : RspName) (opcode : Byte)
    (payload : Bytes) : FrameOutcome :=
  match name with
  | .escrow => escrowResponse tab opcode payload
  | .rejecting => rejectingResponse p opcode payload
  | .denominations => denominationsResponse opcode payload
  | .version => versionResponse opcode payload
  | .stacked => stackedResponse opcode payload
  | .currencypath => pathResponse p (pathKind p payload) opcode payload
  | .setCount => pathResponse p (pathKind p payload) opcode payload
  | .setCurrentCount => pathResponse p (pathKind p payload) opcode payload
  | .count => pathResponse p (pathKind p payload) opcode payload
  | name => plainResponse name opcode payload

/-- `PARSE(frame)` (R195, R196). -/
def parseFrame (p : Params) (tab : Option DenomTab) (frame : Bytes) : FrameOutcome :=
  match classify p frame with
  | .tooShort => .malformed .tooShort
  | .crcMismatch => .malformed .crcMismatch
  | .unknown opcode payload => .unknownResponse opcode payload
  | .response name opcode payload => decodeResponse p tab name opcode payload

end Sys2Proof.Machine
end

