-- ==== Sys2Proof/Machine/Ops.lean ====
section
/-! DEFINITION. The named operations every meaning is built from: writes of one field, the transmit
encoder (41_tx_encode.md R151), the transition (44_fsm.md R266), the glue (45_glue.md R331 to R338, R354),
reception (R330), the session operations (70_reset_and_hazards.md R400 to R403). The block has no trap
(60_exceptions.md R368): an error outcome is an output of the operation that raises it, and
`raiseUnknownCommand`, `raiseInvalidTransition` and the `malformed` outcome are the shared forms. -/

namespace Sys2Proof.Machine

/-! ### Writes of one field -/

/-- `crc_acc <- v` -/
def State.setCrc (s : State) (v : Word) : State := { s with crcAcc := v }

/-- `rx_buf <- v` -/
def State.setRxBuf (s : State) (v : Bytes) : State := { s with rxBuf := v }

/-- `fsm_state <- v` -/
def State.setFsm (s : State) (v : StateName) : State := { s with fsmState := v }

/-- `disable_flag <- v` -/
def State.setDisable (s : State) (v : Bool) : State := { s with disableFlag := v }

/-- `stuck_armed <- v` -/
def State.setArmed (s : State) (v : Bool) : State := { s with stuckArmed := v }

/-- `stuck_fired <- v` -/
def State.setFired (s : State) (v : Bool) : State := { s with stuckFired := v }

/-- `denom_tab <- v` -/
def State.setDenomTab (s : State) (v : Option DenomTab) : State := { s with denomTab := v }

/-- `sw_version <- v` -/
def State.setVersion (s : State) (v : Option Bytes) : State := { s with swVersion := v }

/-- The frame-out register. -/
def State.setFrm (s : State) (v : Option FrameOutcome) : State := { s with frm := v }

/-- Appends outputs. -/
def State.push (s : State) (o : List Output) : State := { s with out := s.out ++ o }

/-- Counts used free bytes. -/
def State.setFree (s : State) (n : Nat) : State := { s with freeCount := n }

/-- Takes the first stimulus away. -/
def State.setInbox (s : State) (v : List Stimulus) : State := { s with inbox := v }

/-! ### The transmit encoder -/

/-- `raise UnknownCommand(id)` (R152, R361): no bytes, no diagnostic, no state change. -/
def raiseUnknownCommand (id : BitVec 4) (s : State) : State := s.push [.txErr id]

/-- Whether a template needs a parameter byte that was not given (the log, row 5). -/
def needsFree (t : Template) (p0 p1 : Option Byte) : Bool :=
  t.slots.isSome && (p0.isNone || p1.isNone)

/-- `TX_ENCODE` of a command (R151); a parameter the rules write "-" is `none`, and stands for a free
byte where an ill-formed template has a slot for it (the log, row 5). -/
def txEncode (c : CmdName) (p0 p1 : Option Byte) (s : State) : State :=
  match templateLookup s.cfg c with
  | none => raiseUnknownCommand c.id s
  | some t =>
    let image := commandImage s.cfg.crc t (p0.getD (Config.freeByte s.freeCount))
      (p1.getD (Config.freeByte (s.freeCount + 1)))
    let s' := if needsFree t p0 p1 then s.setFree (s.freeCount + 2) else s
    s'.push [.diag (.dispatch c.id p0 p1), .tx image]

/-- `TX_ENCODE(id, p0, p1)` (R151); id 15 is no command (R152). -/
def txEncodeId (id : BitVec 4) (p0 p1 : Byte) (s : State) : State :=
  match CmdName.ofId? id with
  | none => raiseUnknownCommand id s
  | some c => txEncode c (some p0) (some p1) s

/-! ### The state machine -/

/-- `raise InvalidTransition(ev, fsm_state)`: only the diagnostic record (R267). The event is given by its
code, so that an unused code of `ev_code` has the same outcome (R114). -/
def raiseInvalidTransition (code : BitVec 6) (s : State) : State :=
  s.push [.diag (.invalidTransition code s.fsmState)]

/-- What one `FSM_EVENT` returns: its result and the two ordered lists (R266, R269). -/
structure Reaction where
  result : EvResult
  emits : List DomainEvent
  dispatches : List CmdName
deriving DecidableEq, Repr

/-- The state after a successful transition to `t` (R266): exit hooks (R270, R272), `fsm_state <- t`,
generic entry (R290), entry (R278, R279). -/
def transition (t : StateName) (s : State) : State :=
  let left := (s.setArmed false).setDisable (exitFlag s.fsmState s.disableFlag)
  let entered := left.setFsm t
  let armed :=
    if entryArms s.cfg.stuckMode t then (entered.setArmed true).push [.stuckStart] else entered
  armed.setDisable (entryFlag t armed.disableFlag)

/-- `FSM_EVENT(ev, data)` (R266 to R269). -/
def fsmEvent (ev : Event) (data : EventData) (s : State) : State × Reaction :=
  match nextState s.cfg.rules ev s.fsmState with
  | none => (raiseInvalidTransition ev.code s, ⟨.invalidTransition, [], []⟩)
  | some t =>
    (transition t s,
      { result := .ok
        emits := exitEmits s.fsmState ++ entryEmits t s.fsmState data
        dispatches := entryDispatches t s.fsmState (exitFlag s.fsmState s.disableFlag) })

/-- `STUCK_FIRE` (R292). -/
def stuckFire (s : State) : State :=
  if s.stuckArmed then ((s.setArmed false).setFired true).push [.emit .stuck] else s

/-! ### The glue -/

/-- Denomination bootstrap (R336): the table is written once. -/
def populate (entries : List DenomEntry) (s : State) : State :=
  match s.denomTab with
  | none => s.setDenomTab (some (tabBuild entries))
  | some _ => s

/-- Version cache (R337): written once. -/
def cacheVersion (text : Bytes) (s : State) : State :=
  match s.swVersion with
  | none => s.setVersion (some text)
  | some _ => s

/-- One emit of a transition (R335 to R338): a `billRead` without denomination becomes a `reject`
command; `denominations` and `version` fill their caches and are published like every other. -/
def afterEmit (s : State) (e : DomainEvent) : State :=
  match e with
  | .billRead none _ => txEncode .reject none none s
  | .denominations (some entries) => (populate entries s).push [.emit e]
  | .version (some text) => (cacheVersion text s).push [.emit e]
  | _ => s.push [.emit e]

/-- One command a hook requested (R338). -/
def afterDispatch (s : State) (c : CmdName) : State := txEncode c none none s

/-- `AFTER(r)` (R354): every emit in order, then every dispatch in order. -/
def after (r : Reaction) (s : State) : State :=
  r.dispatches.foldl afterDispatch (r.emits.foldl afterEmit s)

/-- `FSM_EVENT` followed by `AFTER` (R331, R333, R339). -/
def react (ev : Event) (data : EventData) (s : State) : State :=
  after (fsmEvent ev data s).2 (fsmEvent ev data s).1

/-- `HANDLE(o)` (R331 to R334). -/
def handle (o : FrameOutcome) (s : State) : State :=
  match o with
  | .decoded name override data _ _ =>
    match (override.getD name).event? with
    | none => s.push [.msgSeen]
    | some ev => react ev data (s.push [.msgSeen])
  | .malformed reason => react .badFrame .noData (s.push [.diag (.malformed reason)])
  | .unknownResponse opcode _ => s.push [.unkRsp opcode]

/-! ### Reception -/

/-- A frame outcome on the frame-out port (R11). -/
def record (s : State) (o : FrameOutcome) : State := (s.setFrm (some o)).push [.frame o]

/-- One frame outcome produced and handled (R330). -/
def receive (s : State) (o : FrameOutcome) : State := handle o (record s o)

/-- The outcomes of `RX_CHUNK(chunk)` (R191), each parsed with the parameters and the table as they are. -/
def chunkOutcomes (s : State) (chunk : Bytes) : List FrameOutcome :=
  (ingest s.rxBuf chunk).1.map (parseFrame s.cfg s.denomTab)

/-- The state after the parser has taken a chunk, before its outcomes go anywhere (R191). -/
def ingested (s : State) (chunk : Bytes) : State := s.setRxBuf (ingest s.rxBuf chunk).2

/-- `RX_CHUNK(chunk)` (R191): the outcomes are the operation's result and go to the frame-out port. -/
def rxChunk (chunk : Bytes) (s : State) : State :=
  (chunkOutcomes s chunk).foldl record (ingested s chunk)

/-- One byte of `RX_DELIVER` (R330): the outcomes of `RX_BYTE`, each handled to completion. -/
def deliverByte (s : State) (b : Byte) : State :=
  (chunkOutcomes s [b]).foldl receive (ingested s [b])

/-- `RX_DELIVER(chunk)` (R330). -/
def rxDeliver (chunk : Bytes) (s : State) : State := chunk.foldl deliverByte s

/-! ### Session -/

/-- `FSM_NEW` (R402). -/
def fsmNew (s : State) : State :=
  (((s.setFsm .start).setDisable false).setArmed false).setFired false

/-- `SESSION_REFRESH` (R403). -/
def sessionRefresh (s : State) : State := (fsmNew s).setDenomTab none

/-- `RESET` (R400). The parameters stay, no output is produced, and what has not yet been processed is
the environment's. The frame-out register is emptied (the log, row 4). -/
def resetAll (s : State) : State :=
  ((((fsmNew s).setCrc s.cfg.crc.init).setRxBuf []).setDenomTab none).setVersion none |>.setFrm none

end Sys2Proof.Machine
end

