-- ==== Sys2Proof/Machine/Commands.lean ====
section
/-! DEFINITION. The command rows (41_tx_encode.md R160 to R174): each is `TX_ENCODE` of its command id. The
rules write "-" for the parameters of a command without any. -/

namespace Sys2Proof.Machine

/-- `cmd.status` (R160): `TX_ENCODE` of the command, id 0. -/
def execCmdStatus (s : State) : Host.Outcome State Fault Refusal :=
  .next (txEncode .status none none s)

/-- `cmd.version` (R161): `TX_ENCODE` of the command, id 1. -/
def execCmdVersion (s : State) : Host.Outcome State Fault Refusal :=
  .next (txEncode .version none none s)

/-- `cmd.denominations` (R162): `TX_ENCODE` of the command, id 2. -/
def execCmdDenominations (s : State) : Host.Outcome State Fault Refusal :=
  .next (txEncode .denominations none none s)

/-- `cmd.ack` (R163): `TX_ENCODE` of the command, id 3. -/
def execCmdAck (s : State) : Host.Outcome State Fault Refusal :=
  .next (txEncode .ack none none s)

/-- `cmd.reset` (R164): `TX_ENCODE` of the command, id 4. -/
def execCmdReset (s : State) : Host.Outcome State Fault Refusal :=
  .next (txEncode .reset none none s)

/-- `cmd.stack` (R165): `TX_ENCODE` of the command, id 5. -/
def execCmdStack (s : State) : Host.Outcome State Fault Refusal :=
  .next (txEncode .stack none none s)

/-- `cmd.reject` (R166): `TX_ENCODE` of the command, id 6. -/
def execCmdReject (s : State) : Host.Outcome State Fault Refusal :=
  .next (txEncode .reject none none s)

/-- `cmd.inhibit` (R167): `TX_ENCODE` of the command, id 7. -/
def execCmdInhibit (s : State) : Host.Outcome State Fault Refusal :=
  .next (txEncode .inhibit none none s)

/-- `cmd.unInhibit` (R168): `TX_ENCODE` of the command, id 8. -/
def execCmdUnInhibit (s : State) : Host.Outcome State Fault Refusal :=
  .next (txEncode .unInhibit none none s)

/-- `cmd.emergency` (R169): `TX_ENCODE` of the command, id 9. -/
def execCmdEmergency (s : State) : Host.Outcome State Fault Refusal :=
  .next (txEncode .emergency none none s)

/-- `cmd.count` (R170): `TX_ENCODE` of the command, id 10. -/
def execCmdCount (s : State) : Host.Outcome State Fault Refusal :=
  .next (txEncode .count none none s)

/-- `cmd.currencypath` (R171): `TX_ENCODE` of the command, id 11. -/
def execCmdCurrencypath (path1 path2 : Byte) (s : State) : Host.Outcome State Fault Refusal :=
  .next (txEncode .currencypath (some path1) (some path2) s)

/-- `cmd.setCount` (R172): `TX_ENCODE` of the command, id 12. -/
def execCmdSetCount (count box : Byte) (s : State) : Host.Outcome State Fault Refusal :=
  .next (txEncode .setCount (some count) (some box) s)

/-- `cmd.setCurrentCount` (R173): `TX_ENCODE` of the command, id 13. -/
def execCmdSetCurrentCount (count box : Byte) (s : State) : Host.Outcome State Fault Refusal :=
  .next (txEncode .setCurrentCount (some count) (some box) s)

/-- `cmd.payout` (R174): `TX_ENCODE` of the command, id 14. -/
def execCmdPayout (count box : Byte) (s : State) : Host.Outcome State Fault Refusal :=
  .next (txEncode .payout (some count) (some box) s)

end Sys2Proof.Machine
end

