-- ==== Sys2Proof/Machine/CrcUnit.lean ====
section
/-! DEFINITION. The operations of the CRC unit (40_crc.md R132 to R134). -/

namespace Sys2Proof.Machine

/-- `op.CRC_CLEAR` (R132): `crc_acc <- CRC_INIT`. -/
def execOpCrcClear (s : State) : Host.Outcome State Fault Refusal :=
  .next (s.setCrc s.cfg.crc.init)

/-- `op.CRC_BYTE` (R133): one byte into the accumulator. -/
def execOpCrcByte (b : Byte) (s : State) : Host.Outcome State Fault Refusal :=
  .next (s.setCrc (crcStep s.cfg.crc s.crcAcc b))

/-- `op.CRC_READ` (R134): the value read; the accumulator stays. -/
def execOpCrcRead (s : State) : Host.Outcome State Fault Refusal :=
  .next (s.push [.crcRead (crcFinish s.cfg.crc s.crcAcc)])

end Sys2Proof.Machine
end

