-- ==== Sys2Proof/Machine/HostCommands.lean ====
section
/-! DEFINITION. The encoder as an operation (41_tx_encode.md R151), host-driven events and the outbound
command surface (45_glue.md R339 to R351, R355). -/

namespace Sys2Proof.Machine

/-- `op.TX_ENCODE` (R151): the encoder invoked directly. -/
def execOpTxEncode (id : BitVec 4) (p0 p1 : Byte) (s : State) : Host.Outcome State Fault Refusal :=
  .next (txEncodeId id p0 p1 s)

/-- `HOST_EVENT` of an event (R339): the transition with `NoData`, the glue, the result. -/
def hostEvent (ev : Event) (s : State) : State :=
  (react ev .noData s).push [.result (fsmEvent ev .noData s).2.result]

/-- `HOST_EVENT` of an unused code: an event with no rule (R114, R267). -/
def hostUnusedEvent (code : BitVec 6) (s : State) : State :=
  (raiseInvalidTransition code s).push [.result .invalidTransition]

/-- `HOST_EVENT` of a code of `ev_code` (R11, R114, R339). -/
def hostEventCode (code : BitVec 6) (s : State) : State :=
  match Event.ofCode? code with
  | some ev => hostEvent ev s
  | none => hostUnusedEvent code s

/-- `op.HOST_EVENT` (R339): an event raised by the host. -/
def execOpHostEvent (code : BitVec 6) (s : State) : Host.Outcome State Fault Refusal :=
  .next (hostEventCode code s)

/-- `op.HOST_ENABLE` (R340): sends `unInhibit`; `disable_flag` is not touched. -/
def execOpHostEnable (s : State) : Host.Outcome State Fault Refusal :=
  .next (txEncode .unInhibit none none s)

/-- `HOST_DISABLE` (R341): nothing in Disable, `inhibit` in Enable, else deferred. -/
def hostDisable (s : State) : State :=
  match s.fsmState with
  | .disable => s
  | .enable => txEncode .inhibit none none s
  | _ => s.setDisable true

/-- `op.HOST_DISABLE` (R341): the public command `disable`. -/
def execOpHostDisable (s : State) : Host.Outcome State Fault Refusal :=
  .next (hostDisable s)

/-- `op.HOST_STACK` (R342): sends `stack`. -/
def execOpHostStack (s : State) : Host.Outcome State Fault Refusal :=
  .next (txEncode .stack none none s)

/-- `op.HOST_REJECT` (R343): sends `reject`. -/
def execOpHostReject (s : State) : Host.Outcome State Fault Refusal :=
  .next (txEncode .reject none none s)

/-- `op.HOST_EMERGENCY` (R344): sends `emergency`. -/
def execOpHostEmergency (s : State) : Host.Outcome State Fault Refusal :=
  .next (txEncode .emergency none none s)

/-- `op.HOST_COUNT` (R345): sends `count`. -/
def execOpHostCount (s : State) : Host.Outcome State Fault Refusal :=
  .next (txEncode .count none none s)

/-- `op.HOST_CURRENCYPATH` (R346): sends `currencypath`. -/
def execOpHostCurrencypath (path1 path2 : Byte) (s : State) : Host.Outcome State Fault Refusal :=
  .next (txEncode .currencypath (some path1) (some path2) s)

/-- `op.HOST_SETCOUNT` (R347): sends `setCount`. -/
def execOpHostSetcount (count box : Byte) (s : State) : Host.Outcome State Fault Refusal :=
  .next (txEncode .setCount (some count) (some box) s)

/-- `op.HOST_SETCURRENTCOUNT` (R348): sends `setCurrentCount`. -/
def execOpHostSetcurrentcount (count box : Byte) (s : State) : Host.Outcome State Fault Refusal :=
  .next (txEncode .setCurrentCount (some count) (some box) s)

/-- `op.HOST_PAYOUT` (R349): sends `payout`. -/
def execOpHostPayout (count box : Byte) (s : State) : Host.Outcome State Fault Refusal :=
  .next (txEncode .payout (some count) (some box) s)

/-- `op.HOST_STATUS` (R350): sends `status`. -/
def execOpHostStatus (s : State) : Host.Outcome State Fault Refusal :=
  .next (txEncode .status none none s)

/-- `op.HOST_VERSION` (R351): sends `version`. -/
def execOpHostVersion (s : State) : Host.Outcome State Fault Refusal :=
  .next (txEncode .version none none s)

end Sys2Proof.Machine
end

