-- ==== Sys2Proof/Machine/Reception.lean ====
section
/-! DEFINITION. The receive operations (42_rx_ingest.md R191, R192, 45_glue.md R330). -/

namespace Sys2Proof.Machine

/-- `op.RX_CHUNK` (R191): the parser alone. -/
def execOpRxChunk (chunk : Bytes) (s : State) : Host.Outcome State Fault Refusal :=
  .next (rxChunk chunk s)

/-- `op.RX_BYTE` (R192): the parser alone, one byte. -/
def execOpRxByte (b : Byte) (s : State) : Host.Outcome State Fault Refusal :=
  .next (rxChunk [b] s)

/-- `op.RX_DELIVER` (R330): parser and glue, byte by byte. -/
def execOpRxDeliver (chunk : Bytes) (s : State) : Host.Outcome State Fault Refusal :=
  .next (rxDeliver chunk s)

end Sys2Proof.Machine
end

