-- ==== Sys2Proof/Machine/Responses.lean ====
section
/-! DEFINITION. The received-frame rows: a frame of each response name (43_payload_decode.md), a frame with
an unknown opcode (42_rx_ingest.md R196) and the malformed frames (R194, R195). Each decodes its payload and
hands the outcome to the glue (45_glue.md R331 to R338), as `RX_DELIVER` does with the frame's bytes. -/

namespace Sys2Proof.Machine

/-- `rsp.enable` (R440): no decoded payload. -/
def execRspEnable (opcode : Byte) (payload : Bytes) (s : State) :
    Host.Outcome State Fault Refusal :=
  .next (receive s (plainResponse .enable opcode payload))

/-- `rsp.accepting` (R441): no decoded payload. -/
def execRspAccepting (opcode : Byte) (payload : Bytes) (s : State) :
    Host.Outcome State Fault Refusal :=
  .next (receive s (plainResponse .accepting opcode payload))

/-- `rsp.escrow` (R231): code and denomination, from the table as it is. -/
def execRspEscrow (opcode : Byte) (payload : Bytes) (s : State) :
    Host.Outcome State Fault Refusal :=
  .next (receive s (escrowResponse s.denomTab opcode payload))

/-- `rsp.stacking` (R442): no decoded payload. -/
def execRspStacking (opcode : Byte) (payload : Bytes) (s : State) :
    Host.Outcome State Fault Refusal :=
  .next (receive s (plainResponse .stacking opcode payload))

/-- `rsp.vendValid` (R443): no decoded payload. -/
def execRspVendValid (opcode : Byte) (payload : Bytes) (s : State) :
    Host.Outcome State Fault Refusal :=
  .next (receive s (plainResponse .vendValid opcode payload))

/-- `rsp.stacked` (R235): the path index. -/
def execRspStacked (opcode : Byte) (payload : Bytes) (s : State) :
    Host.Outcome State Fault Refusal :=
  .next (receive s (stackedResponse opcode payload))

/-- `rsp.rejecting` (R232): reason and code. -/
def execRspRejecting (opcode : Byte) (payload : Bytes) (s : State) :
    Host.Outcome State Fault Refusal :=
  .next (receive s (rejectingResponse s.cfg opcode payload))

/-- `rsp.returning` (R444): no decoded payload. -/
def execRspReturning (opcode : Byte) (payload : Bytes) (s : State) :
    Host.Outcome State Fault Refusal :=
  .next (receive s (plainResponse .returning opcode payload))

/-- `rsp.disable` (R445): no decoded payload. -/
def execRspDisable (opcode : Byte) (payload : Bytes) (s : State) :
    Host.Outcome State Fault Refusal :=
  .next (receive s (plainResponse .disable opcode payload))

/-- `rsp.initialize` (R446): no decoded payload. -/
def execRspInitialize (opcode : Byte) (payload : Bytes) (s : State) :
    Host.Outcome State Fault Refusal :=
  .next (receive s (plainResponse .initialise opcode payload))

/-- `rsp.powerUp` (R447): no decoded payload. -/
def execRspPowerUp (opcode : Byte) (payload : Bytes) (s : State) :
    Host.Outcome State Fault Refusal :=
  .next (receive s (plainResponse .powerUp opcode payload))

/-- `rsp.stackerFull` (R448): no decoded payload. -/
def execRspStackerFull (opcode : Byte) (payload : Bytes) (s : State) :
    Host.Outcome State Fault Refusal :=
  .next (receive s (plainResponse .stackerFull opcode payload))

/-- `rsp.stackerOpen` (R449): no decoded payload. -/
def execRspStackerOpen (opcode : Byte) (payload : Bytes) (s : State) :
    Host.Outcome State Fault Refusal :=
  .next (receive s (plainResponse .stackerOpen opcode payload))

/-- `rsp.acceptorJam` (R450): no decoded payload. -/
def execRspAcceptorJam (opcode : Byte) (payload : Bytes) (s : State) :
    Host.Outcome State Fault Refusal :=
  .next (receive s (plainResponse .acceptorJam opcode payload))

/-- `rsp.stackerJam` (R451): no decoded payload. -/
def execRspStackerJam (opcode : Byte) (payload : Bytes) (s : State) :
    Host.Outcome State Fault Refusal :=
  .next (receive s (plainResponse .stackerJam opcode payload))

/-- `rsp.paused` (R452): no decoded payload. -/
def execRspPaused (opcode : Byte) (payload : Bytes) (s : State) :
    Host.Outcome State Fault Refusal :=
  .next (receive s (plainResponse .paused opcode payload))

/-- `rsp.cheated` (R453): no decoded payload. -/
def execRspCheated (opcode : Byte) (payload : Bytes) (s : State) :
    Host.Outcome State Fault Refusal :=
  .next (receive s (plainResponse .cheated opcode payload))

/-- `rsp.failure` (R454): no decoded payload. -/
def execRspFailure (opcode : Byte) (payload : Bytes) (s : State) :
    Host.Outcome State Fault Refusal :=
  .next (receive s (plainResponse .failure opcode payload))

/-- `rsp.comError` (R455): no decoded payload. -/
def execRspComError (opcode : Byte) (payload : Bytes) (s : State) :
    Host.Outcome State Fault Refusal :=
  .next (receive s (plainResponse .comError opcode payload))

/-- `rsp.invalidCommand` (R456): no decoded payload. -/
def execRspInvalidCommand (opcode : Byte) (payload : Bytes) (s : State) :
    Host.Outcome State Fault Refusal :=
  .next (receive s (plainResponse .invalidCommand opcode payload))

/-- `rsp.ack` (R457): no decoded payload. -/
def execRspAck (opcode : Byte) (payload : Bytes) (s : State) : Host.Outcome State Fault Refusal :=
  .next (receive s (plainResponse .ack opcode payload))

/-- `rsp.version` (R234): the version bytes. -/
def execRspVersion (opcode : Byte) (payload : Bytes) (s : State) :
    Host.Outcome State Fault Refusal :=
  .next (receive s (versionResponse opcode payload))

/-- `rsp.denominations` (R233): the entries of a denomination table. -/
def execRspDenominations (opcode : Byte) (payload : Bytes) (s : State) :
    Host.Outcome State Fault Refusal :=
  .next (receive s (denominationsResponse opcode payload))

/-- `rsp.inhibit` (R458): no decoded payload. -/
def execRspInhibit (opcode : Byte) (payload : Bytes) (s : State) :
    Host.Outcome State Fault Refusal :=
  .next (receive s (plainResponse .inhibit opcode payload))

/-- `rsp.paying` (R459): no decoded payload. -/
def execRspPaying (opcode : Byte) (payload : Bytes) (s : State) :
    Host.Outcome State Fault Refusal :=
  .next (receive s (plainResponse .paying opcode payload))

/-- `rsp.payStay` (R460): no decoded payload. -/
def execRspPayStay (opcode : Byte) (payload : Bytes) (s : State) :
    Host.Outcome State Fault Refusal :=
  .next (receive s (plainResponse .payStay opcode payload))

/-- `rsp.payValid` (R461): no decoded payload. -/
def execRspPayValid (opcode : Byte) (payload : Bytes) (s : State) :
    Host.Outcome State Fault Refusal :=
  .next (receive s (plainResponse .payValid opcode payload))

/-- `rsp.recyclerUnitFailure` (R462): no decoded payload. -/
def execRspRecyclerUnitFailure (opcode : Byte) (payload : Bytes) (s : State) :
    Host.Outcome State Fault Refusal :=
  .next (receive s (plainResponse .recyclerUnitFailure opcode payload))

/-- `rsp.path.currencypath` (R242): the shared opcode, kind `currencyPath`. -/
def execRspPathCurrencypath (opcode : Byte) (payload : Bytes) (s : State) :
    Host.Outcome State Fault Refusal :=
  .next (receive s (pathResponse s.cfg (some .currencyPath) opcode payload))

/-- `rsp.path.count` (R243): the shared opcode, kind `count`. -/
def execRspPathCount (opcode : Byte) (payload : Bytes) (s : State) :
    Host.Outcome State Fault Refusal :=
  .next (receive s (pathResponse s.cfg (some .count) opcode payload))

/-- `rsp.path.setCount` (R245): the shared opcode, kind `setCount`. -/
def execRspPathSetCount (opcode : Byte) (payload : Bytes) (s : State) :
    Host.Outcome State Fault Refusal :=
  .next (receive s (pathResponse s.cfg (some .setCount) opcode payload))

/-- `rsp.path.setCurrentCount` (R246): the shared opcode, kind `setCurrentCount`. -/
def execRspPathSetCurrentCount (opcode : Byte) (payload : Bytes) (s : State) :
    Host.Outcome State Fault Refusal :=
  .next (receive s (pathResponse s.cfg (some .setCurrentCount) opcode payload))

/-- `rsp.path.unrecognised` (R244): the shared opcode without a known sub-code. -/
def execRspPathUnrecognised (opcode : Byte) (payload : Bytes) (s : State) :
    Host.Outcome State Fault Refusal :=
  .next (receive s (pathResponse s.cfg none opcode payload))

/-- `rsp.unknown` (R196): an opcode the response table lacks. -/
def execRspUnknown (opcode : Byte) (payload : Bytes) (s : State) :
    Host.Outcome State Fault Refusal :=
  .next (receive s (.unknownResponse opcode payload))

/-- `rx.tooShort` (R194): a length byte below 5. -/
def execRxTooShort (_len : Byte) (_rest : Bytes) (s : State) : Host.Outcome State Fault Refusal :=
  .next (receive s (.malformed .tooShort))

/-- `rx.crcMismatch` (R195): a CRC field that is not the CRC. -/
def execRxCrcMismatch (_opcode : Byte) (_payload : Bytes) (_trailer : Word) (s : State) :
    Host.Outcome State Fault Refusal :=
  .next (receive s (.malformed .crcMismatch))

end Sys2Proof.Machine
end

