-- ==== Sys2Proof/Machine/Session.lean ====
section
/-! DEFINITION. Reset and session operations (70_reset_and_hazards.md R400 to R403), the transition as an
operation of its own (44_fsm.md R266) and the stuck timer's expiry (R292). -/

namespace Sys2Proof.Machine

/-- `op.RESET` (R400): every state element to its reset value. -/
def execOpReset (s : State) : Host.Outcome State Fault Refusal :=
  .next (resetAll s)

/-- `op.FSM_NEW` (R402): a fresh state machine. -/
def execOpFsmNew (s : State) : Host.Outcome State Fault Refusal :=
  .next (fsmNew s)

/-- `op.SESSION_REFRESH` (R403): a fresh state machine and no denomination table. -/
def execOpSessionRefresh (s : State) : Host.Outcome State Fault Refusal :=
  .next (sessionRefresh s)

/-- `op.STUCK_FIRE` (R292): the stuck signal, if the timer is armed. -/
def execOpStuckFire (s : State) : Host.Outcome State Fault Refusal :=
  .next (stuckFire s)

/-- What `FSM_EVENT` returns, as outputs: emits, requested commands, result (R266). -/
def reactionOutputs (r : Reaction) : List Output :=
  r.emits.map .emit ++ r.dispatches.map .request ++ [.result r.result]

/-- `op.FSM_EVENT` (R266): the transition alone; nothing acts on its outputs. -/
def execOpFsmEvent (ev : Event) (data : EventData) (s : State) :
    Host.Outcome State Fault Refusal :=
  .next ((fsmEvent ev data s).1.push (reactionOutputs (fsmEvent ev data s).2))

end Sys2Proof.Machine
end

