-- ==== Sys2Proof/Machine/Dispatch.lean ====
section
/-! DEFINITION. One arm per instruction: a direct call of its meaning. -/

namespace Sys2Proof.Machine

def exec (i : Instr) (s : State) : Host.Outcome State Fault Refusal :=
  match i with
  | .cmdStatus => Sys2Proof.Machine.execCmdStatus s
  | .cmdVersion => Sys2Proof.Machine.execCmdVersion s
  | .cmdDenominations => Sys2Proof.Machine.execCmdDenominations s
  | .cmdAck => Sys2Proof.Machine.execCmdAck s
  | .cmdReset => Sys2Proof.Machine.execCmdReset s
  | .cmdStack => Sys2Proof.Machine.execCmdStack s
  | .cmdReject => Sys2Proof.Machine.execCmdReject s
  | .cmdInhibit => Sys2Proof.Machine.execCmdInhibit s
  | .cmdUnInhibit => Sys2Proof.Machine.execCmdUnInhibit s
  | .cmdEmergency => Sys2Proof.Machine.execCmdEmergency s
  | .cmdCount => Sys2Proof.Machine.execCmdCount s
  | .cmdCurrencypath path1 path2 => Sys2Proof.Machine.execCmdCurrencypath path1 path2 s
  | .cmdSetCount count box => Sys2Proof.Machine.execCmdSetCount count box s
  | .cmdSetCurrentCount count box => Sys2Proof.Machine.execCmdSetCurrentCount count box s
  | .cmdPayout count box => Sys2Proof.Machine.execCmdPayout count box s
  | .rspEnable opcode payload => Sys2Proof.Machine.execRspEnable opcode payload s
  | .rspAccepting opcode payload => Sys2Proof.Machine.execRspAccepting opcode payload s
  | .rspEscrow opcode payload => Sys2Proof.Machine.execRspEscrow opcode payload s
  | .rspStacking opcode payload => Sys2Proof.Machine.execRspStacking opcode payload s
  | .rspVendValid opcode payload => Sys2Proof.Machine.execRspVendValid opcode payload s
  | .rspStacked opcode payload => Sys2Proof.Machine.execRspStacked opcode payload s
  | .rspRejecting opcode payload => Sys2Proof.Machine.execRspRejecting opcode payload s
  | .rspReturning opcode payload => Sys2Proof.Machine.execRspReturning opcode payload s
  | .rspDisable opcode payload => Sys2Proof.Machine.execRspDisable opcode payload s
  | .rspInitialize opcode payload => Sys2Proof.Machine.execRspInitialize opcode payload s
  | .rspPowerUp opcode payload => Sys2Proof.Machine.execRspPowerUp opcode payload s
  | .rspStackerFull opcode payload => Sys2Proof.Machine.execRspStackerFull opcode payload s
  | .rspStackerOpen opcode payload => Sys2Proof.Machine.execRspStackerOpen opcode payload s
  | .rspAcceptorJam opcode payload => Sys2Proof.Machine.execRspAcceptorJam opcode payload s
  | .rspStackerJam opcode payload => Sys2Proof.Machine.execRspStackerJam opcode payload s
  | .rspPaused opcode payload => Sys2Proof.Machine.execRspPaused opcode payload s
  | .rspCheated opcode payload => Sys2Proof.Machine.execRspCheated opcode payload s
  | .rspFailure opcode payload => Sys2Proof.Machine.execRspFailure opcode payload s
  | .rspComError opcode payload => Sys2Proof.Machine.execRspComError opcode payload s
  | .rspInvalidCommand opcode payload => Sys2Proof.Machine.execRspInvalidCommand opcode payload s
  | .rspAck opcode payload => Sys2Proof.Machine.execRspAck opcode payload s
  | .rspVersion opcode payload => Sys2Proof.Machine.execRspVersion opcode payload s
  | .rspDenominations opcode payload => Sys2Proof.Machine.execRspDenominations opcode payload s
  | .rspInhibit opcode payload => Sys2Proof.Machine.execRspInhibit opcode payload s
  | .rspPaying opcode payload => Sys2Proof.Machine.execRspPaying opcode payload s
  | .rspPayStay opcode payload => Sys2Proof.Machine.execRspPayStay opcode payload s
  | .rspPayValid opcode payload => Sys2Proof.Machine.execRspPayValid opcode payload s
  | .rspRecyclerUnitFailure opcode payload => Sys2Proof.Machine.execRspRecyclerUnitFailure opcode payload s
  | .rspPathCurrencypath opcode payload => Sys2Proof.Machine.execRspPathCurrencypath opcode payload s
  | .rspPathCount opcode payload => Sys2Proof.Machine.execRspPathCount opcode payload s
  | .rspPathSetCount opcode payload => Sys2Proof.Machine.execRspPathSetCount opcode payload s
  | .rspPathSetCurrentCount opcode payload => Sys2Proof.Machine.execRspPathSetCurrentCount opcode payload s
  | .rspPathUnrecognised opcode payload => Sys2Proof.Machine.execRspPathUnrecognised opcode payload s
  | .rspUnknown opcode payload => Sys2Proof.Machine.execRspUnknown opcode payload s
  | .rxTooShort len rest => Sys2Proof.Machine.execRxTooShort len rest s
  | .rxCrcMismatch opcode payload trailer => Sys2Proof.Machine.execRxCrcMismatch opcode payload trailer s
  | .opReset => Sys2Proof.Machine.execOpReset s
  | .opCrcClear => Sys2Proof.Machine.execOpCrcClear s
  | .opCrcByte b => Sys2Proof.Machine.execOpCrcByte b s
  | .opCrcRead => Sys2Proof.Machine.execOpCrcRead s
  | .opTxEncode id p0 p1 => Sys2Proof.Machine.execOpTxEncode id p0 p1 s
  | .opRxChunk chunk => Sys2Proof.Machine.execOpRxChunk chunk s
  | .opRxByte b => Sys2Proof.Machine.execOpRxByte b s
  | .opFsmEvent ev data => Sys2Proof.Machine.execOpFsmEvent ev data s
  | .opStuckFire => Sys2Proof.Machine.execOpStuckFire s
  | .opFsmNew => Sys2Proof.Machine.execOpFsmNew s
  | .opSessionRefresh => Sys2Proof.Machine.execOpSessionRefresh s
  | .opRxDeliver chunk => Sys2Proof.Machine.execOpRxDeliver chunk s
  | .opHostEvent code => Sys2Proof.Machine.execOpHostEvent code s
  | .opHostEnable => Sys2Proof.Machine.execOpHostEnable s
  | .opHostDisable => Sys2Proof.Machine.execOpHostDisable s
  | .opHostStack => Sys2Proof.Machine.execOpHostStack s
  | .opHostReject => Sys2Proof.Machine.execOpHostReject s
  | .opHostEmergency => Sys2Proof.Machine.execOpHostEmergency s
  | .opHostCount => Sys2Proof.Machine.execOpHostCount s
  | .opHostCurrencypath path1 path2 => Sys2Proof.Machine.execOpHostCurrencypath path1 path2 s
  | .opHostSetcount count box => Sys2Proof.Machine.execOpHostSetcount count box s
  | .opHostSetcurrentcount count box => Sys2Proof.Machine.execOpHostSetcurrentcount count box s
  | .opHostPayout count box => Sys2Proof.Machine.execOpHostPayout count box s
  | .opHostStatus => Sys2Proof.Machine.execOpHostStatus s
  | .opHostVersion => Sys2Proof.Machine.execOpHostVersion s

end Sys2Proof.Machine
end

