-- ==== Sys2Proof/Machine/Step.lean ====
section
/-! DEFINITION. One step: the first stimulus that has arrived is decoded and its instruction executed
(00_scope.md R9, 60_exceptions.md R372); with nothing arrived the block is idle (R384). -/

namespace Sys2Proof.Machine

/-- The refusal of a stimulus that names no instruction. -/
def refusalOf : Reject → Refusal
  | .unknownImage => .unknownImage
  | .notAnOperation => .notAnOperation

/-- One step of the machine. -/
def step (s : State) : Host.Outcome State Fault Refusal :=
  match s.inbox with
  | [] => .next s
  | st :: rest =>
    match decode s.cfg s.rxBuf st with
    | .ok i => exec i (s.setInbox rest)
    | .error r => .refused (refusalOf r)

/-- The state with the stimulus a word of the opcode table stands for as its next one. A received frame's
row needs an empty receive buffer: the frame's first byte is then its sync byte (the log, row 2). -/
def State.withFetchWord (s : State) (nbits w : Nat) : State :=
  match tableStimulus s.cfg nbits w with
  | .rx chunk => (s.setRxBuf []).setInbox (.rx chunk :: s.inbox)
  | st => s.setInbox (st :: s.inbox)

end Sys2Proof.Machine
end

