-- ==== Sys2Proof/Machine/Ports.lean ====
section
/-! DEFINITION. The output ports as views of the state and of the outputs (00_scope.md R11, 30_encoding.md
R106, R110 to R113, 60_exceptions.md R360). -/

namespace Sys2Proof.Machine

/-! ### Frame-out port -/

/-- `frm_status` (R112). -/
def FrameOutcome.status : FrameOutcome → BitVec 2
  | .decoded .. => 0
  | .malformed _ => 1
  | .unknownResponse .. => 2

/-- `frame[2]`, which `frm_opcode` shows when the status is 0 or 2. -/
def FrameOutcome.opcode? : FrameOutcome → Option Byte
  | .decoded _ _ _ opcode _ => some opcode
  | .malformed _ => none
  | .unknownResponse opcode _ => some opcode

/-- The code of the response table's name, which `frm_name` shows (R110): `name` of the decoded frame, not
its override. DEDUCED (the log, row 38). -/
def FrameOutcome.nameCode? : FrameOutcome → Option (BitVec 5)
  | .decoded name .. => some name.code
  | _ => none

/-- The payload behind the read port. -/
def FrameOutcome.payload : FrameOutcome → Bytes
  | .decoded _ _ _ _ payload => payload
  | .malformed _ => []
  | .unknownResponse _ payload => payload

/-! The held signals (R11, R60). Before the first frame and after `RESET` the spec gives them no value: they
read 0, DESIGN CHOICE (the log, row 4). Where a frame leaves one without a value it is a free value (the log,
row 36). -/

/-- `rx_ready`, constantly 1: the parser never refuses a byte (R11). -/
def State.rxReady (_ : State) : BitVec 1 := 1

/-- `frm_status` of the last frame. -/
def State.frmStatus (s : State) : BitVec 2 :=
  match s.frm with
  | none => 0
  | some o => o.status

/-- `frm_opcode` of the last frame; free after a malformed one, whose opcode R11 does not show. -/
def State.frmOpcode (s : State) : Byte :=
  match s.frm with
  | none => 0
  | some o => o.opcode?.getD (Config.freeFrmOpcode s.out.length)

/-- `frm_name` of the last frame; free after one that was not decoded, which has no name (R110). -/
def State.frmName (s : State) : BitVec 5 :=
  match s.frm with
  | none => 0
  | some o => o.nameCode?.getD (Config.freeFrmName s.out.length)

/-- `frm_len`: the number of payload bytes of the last frame; free, from 0 to 250, after a malformed one. -/
def State.frmLen (s : State) : Byte :=
  match s.frm with
  | none => 0
  | some (.malformed _) => BitVec.ofNat 8 (Config.freeFrmLen s.out.length).val
  | some o => BitVec.ofNat 8 o.payload.length

/-- `frm_rd_data` at `frm_rd_idx`: a byte of the payload of the last frame. At an index at or beyond
`frm_len`, and at every index after a malformed frame, R11 and R60 give no value: it is free, the model's
choice (the log, row 36). -/
def State.frmRead (s : State) (idx : Byte) : Byte :=
  match s.frm with
  | none => 0
  | some o => (o.payload[idx.toNat]?).getD (Config.freeFrmData s.out.length idx)

/-! ### State-machine ports -/

/-- The `fsm_state` port (R106). -/
def State.fsmPort (s : State) : BitVec 6 := s.fsmState.code

/-- `ev_result`. -/
def EvResult.bit : EvResult → BitVec 1
  | .ok => 0
  | .invalidTransition => 1

/-- `emit_code` (R111). -/
def DomainEvent.code : DomainEvent → BitVec 5
  | .powerUp => 0
  | .ready => 1
  | .denominations _ => 2
  | .version _ => 3
  | .onpaystay => 4
  | .onpayvalid => 5
  | .standby => 6
  | .billAccepted => 7
  | .billRejected .. => 8
  | .billRead .. => 9
  | .billStacked _ => 10
  | .pathCurrency _ => 11
  | .pathSetCount _ => 12
  | .pathSetCurrentCount _ => 13
  | .pathCount _ => 14
  | .billValid => 15
  | .stackerOpen => 16
  | .stackerFull => 17
  | .acceptorJam => 18
  | .stackerJam => 19
  | .cheated => 20
  | .stuck => 21

/-! ### Outcome codes -/

/-- The outcome an output stands for, by its code (R113, R360): 1 `UnknownCommand`, 2 `CrcMismatch`,
3 `TooShort`, 4 `UnknownResponse`, 5 `InvalidTransition`, 6 `Stuck`, 0 `Ok`. -/
def Output.outcomeCode? : Output → Option (BitVec 3)
  | .txErr _ => some 1
  | .frame (.malformed .crcMismatch) => some 2
  | .frame (.malformed .tooShort) => some 3
  | .frame (.unknownResponse ..) => some 4
  | .diag (.invalidTransition ..) => some 5
  | .emit .stuck => some 6
  | .result .ok => some 0
  | .tx _ => some 0
  | .frame (.decoded ..) => some 0
  | _ => none

/-! ### The lists of an operation's outputs (R8) -/

/-- `emits` -/
def emitsOf (l : List Output) : List DomainEvent :=
  l.filterMap fun o => match o with
    | .emit e => some e
    | _ => none

/-- The frames transmitted. -/
def txOf (l : List Output) : List Bytes :=
  l.filterMap fun o => match o with
    | .tx b => some b
    | _ => none

/-- `dispatches` of `FSM_EVENT` -/
def requestsOf (l : List Output) : List CmdName :=
  l.filterMap fun o => match o with
    | .request c => some c
    | _ => none

/-- `diags` -/
def diagsOf (l : List Output) : List Diag :=
  l.filterMap fun o => match o with
    | .diag d => some d
    | _ => none

/-- The frame outcomes. -/
def framesOf (l : List Output) : List FrameOutcome :=
  l.filterMap fun o => match o with
    | .frame f => some f
    | _ => none

/-- How many `msg_seen` pulses. -/
def msgSeenCount (l : List Output) : Nat := l.count .msgSeen

end Sys2Proof.Machine
end

