-- ==== Sys2Proof/Machine/Serial.lean ====
section
/-! DEFINITION. The byte-serial realisation of the receive parser (10_state.md R24, 42_rx_ingest.md R197),
with the receiver's own running CRC. It is not state of the block (R20); the model's receive buffer is
the list of R23, and a statement says the two agree. -/

namespace Sys2Proof.Machine

/-- `rx_phase` (R24). -/
inductive RxPhase where
  | hunt | len | body
deriving DecidableEq, Repr

/-- The registers of R24 and R197: `mem` holds the bytes below `cnt`, `crc` is the running CRC over
the bytes two positions behind the last one received. -/
structure RxRegs where
  phase : RxPhase
  lenReg : Byte
  cnt : Byte
  mem : Bytes
  crc : Word
deriving DecidableEq, Repr

/-- The registers after reset: `rx_phase = HUNT` and `rx_cnt = 0` are R400's. It gives no value for the others:
`rx_len = 0`, no byte in `rx_mem` and `rx_crc = CRC_INIT` are DESIGN CHOICE (the log, row 37). -/
def RxRegs.reset (p : CrcParams) : RxRegs :=
  { phase := .hunt, lenReg := 0, cnt := 0, mem := [], crc := p.init }

/-- The outcome of a complete frame, from the running CRC instead of a recomputed one (R197). -/
def serialParse (p : Params) (tab : Option DenomTab) (frame : Bytes) (crc : Word) : FrameOutcome :=
  if frame.length < Config.minFrame then .malformed .tooShort
  else if crcFinish p.crc crc ≠ frameTrailer frame then .malformed .crcMismatch
  else
    match rspLookup p (frame.getD 2 0) with
    | none => .unknownResponse (frame.getD 2 0) (framePayload frame)
    | some name => decodeResponse p tab name (frame.getD 2 0) (framePayload frame)

/-- The running CRC after the byte at position `cnt`: the byte two positions behind it goes in (R197). -/
def serialCrc (p : CrcParams) (r : RxRegs) : Word :=
  match r.mem[r.cnt.toNat - 2]? with
  | some b => crcStep p r.crc b
  | none => r.crc

/-- `RX_BYTE(b)` in terms of the registers (R197): the outcome, if any, and the registers after. -/
def serialByte (p : Params) (tab : Option DenomTab) (r : RxRegs) (b : Byte) :
    Option FrameOutcome × RxRegs :=
  match r.phase with
  | .hunt =>
    if b = Config.sync then
      (none, { r with phase := .len, cnt := 1, mem := [b], crc := p.crc.init })
    else (none, r)
  | .len =>
    if b.toNat ≤ 2 then
      (some (.malformed .tooShort), { r with phase := .hunt, lenReg := b, cnt := 0, mem := [] })
    else (none, { r with phase := .body, lenReg := b, cnt := 2, mem := r.mem ++ [b] })
  | .body =>
    let mem := r.mem ++ [b]
    let crc := serialCrc p.crc r
    if r.cnt + 1 = r.lenReg then
      (some (serialParse p tab mem crc), { r with phase := .hunt, cnt := 0, mem := [], crc := crc })
    else (none, { r with cnt := r.cnt + 1, mem := mem, crc := crc })

/-- Successive bytes through the realisation. -/
def serialBytes (p : Params) (tab : Option DenomTab) :
    RxRegs → Bytes → List FrameOutcome × RxRegs
  | r, [] => ([], r)
  | r, b :: bs =>
    let one := serialByte p tab r b
    let rest := serialBytes p tab one.2 bs
    (one.1.toList ++ rest.1, rest.2)

/-- The phase a receive buffer stands for (R24). -/
def rxPhase (buf : Bytes) : RxPhase :=
  match buf with
  | [] => .hunt
  | [_] => .len
  | _ :: _ :: _ => .body

/-- The correspondence of R24 between the registers and the receive buffer, and the running CRC of R197:
it covers the bytes of the buffer but the last two. -/
def RxRegs.holds (p : CrcParams) (r : RxRegs) (buf : Bytes) : Prop :=
  r.phase = rxPhase buf ∧ r.mem = buf ∧ r.cnt.toNat = buf.length ∧
  (r.phase = .body → buf[1]? = some r.lenReg) ∧
  (r.phase ≠ .hunt → r.crc = (buf.take (buf.length - 2)).foldl (crcStep p) p.init)

end Sys2Proof.Machine
end

