-- ==== Sys2Proof/Safety.lean ====
section
/-! DEFINITION. What holds between operations: the invariants the rules state or imply (10_state.md R23,
R27, R28, R30, R31, 43_payload_decode.md R233), and safe runs. -/

namespace Sys2Proof.Machine

/-- INV_RX (R23): the buffer is empty, or begins with the sync byte and is an incomplete frame. -/
def rxInv (buf : Bytes) : Bool :=
  match buf with
  | [] => true
  | [b] => b == Config.sync
  | b :: len :: rest => b == Config.sync && decide (rest.length + 2 < len.toNat)

/-- The keyed memory of the block, the denomination table, in canonical form (R30): codes strictly
rising. -/
def Memory.wf (tab : Option DenomTab) : Bool := tab.all tabWf

/-- No stored entry has significand 0 (R233, R336). -/
def denomInv (tab : Option DenomTab) : Bool := tab.all fun m => m.all fun e => e.sig != 0

/-- A cached version is a payload (R31). -/
def versionInv (v : Option Bytes) : Bool := v.all fun text => decide (text.length ≤ Config.maxPayload)

/-- A deferred disable is pending only outside Enable and Disable (R27). -/
def flagInv (s : State) : Bool :=
  !s.disableFlag || (s.fsmState != .enable && s.fsmState != .disable)

/-- The transient states, in which alone the timer is armed, as R291 names them. Written out here, so that
statements do not rest on the machine's own `StateName.transient`. -/
def armingStates : List StateName := [.returning, .stacking, .stacked, .accepting, .rejecting]

/-- The timer is armed only in a transient state, and never when `STUCK_MODE = never` (R28, R290). -/
def timerInv (s : State) : Bool :=
  !s.stuckArmed || decide (s.fsmState ∈ armingStates ∧ s.cfg.stuckMode = .byState)

/-- What holds between operations. -/
structure State.Inv (s : State) : Prop where
  rx : rxInv s.rxBuf = true
  memory : Memory.wf s.denomTab = true
  denom : denomInv s.denomTab = true
  version : versionInv s.swVersion = true
  flag : flagInv s = true
  timer : timerInv s = true

/-! ### Runs of instructions -/

/-- Instructions one after the other, stopping at the first that gives no next state. -/
def execAll : List Instr → State → Host.Outcome State Fault Refusal
  | [], s => .next s
  | i :: is, s =>
    match exec i s with
    | .next t => execAll is t
    | .fault r => .fault r
    | .refused r => .refused r

/-! ### What a frame or an event does, in the terms of the rules -/

/-- The outputs `FSM_EVENT` produces before the hooks' (R290). -/
def armOutputs (mode : StuckMode) (t : StateName) : List Output :=
  if t ∈ armingStates ∧ mode = .byState then [.stuckStart] else []

/-- `ready`, if the state left is Connected (R271). -/
def readyIf (src : StateName) : List DomainEvent := if src = .connected then [.ready] else []

/-- The outputs of a command sent without parameters through a template without slots (R151, R154). -/
def sends (c : CmdName) (bytes : Bytes) : List Output :=
  [.diag (.dispatch c.id none none), .tx bytes]

/-- A command has a template without slots, and these are its bytes (R150). -/
def HasStored (p : Params) (c : CmdName) (bytes : Bytes) : Prop :=
  templateLookup p c = some ⟨bytes, none⟩

/-- `sent` is what sending each command that a hook or the glue requests outputs (R335, R338): its stored frame,
or `UnknownCommand` without a template. A template with slots, ill-formed for these commands (R150), is left
out. -/
def SendsAs (p : Params) (sent : CmdName → List Output) : Prop :=
  ∀ c ∈ ([.ack, .reset, .inhibit, .reject] : List CmdName),
    (templateLookup p c = none ∧ sent c = [.txErr c.id]) ∨
    ∃ bytes, HasStored p c bytes ∧ sent c = sends c bytes

/-- What the glue outputs for one emit (R335, R338): a `billRead` without a denomination becomes the command
`reject`, every other emit is published. -/
def published (sent : CmdName → List Output) : DomainEvent → List Output
  | .billRead none _ => sent .reject
  | e => [.emit e]

/-- Whether event data has the shape that the entry hook of a state reads (R274, R275, R281, R283 to R288). -/
def dataFits (t : StateName) (data : EventData) : Bool :=
  match t, data with
  | .rejecting, .reject _ _ => true
  | .escrow, .escrow _ _ => true
  | .stacked, .stacked _ => true
  | .denominations, .denoms _ => true
  | .version, .version _ => true
  | .currencyPath, .path _ => true
  | .setCount, .path _ => true
  | .setCurrentCount, .path _ => true
  | .count, .path _ => true
  | _, _ => false

/-- The rows that are one received frame. -/
def isFrameRow : Instr → Bool
  | .cmdStatus => false
  | .cmdVersion => false
  | .cmdDenominations => false
  | .cmdAck => false
  | .cmdReset => false
  | .cmdStack => false
  | .cmdReject => false
  | .cmdInhibit => false
  | .cmdUnInhibit => false
  | .cmdEmergency => false
  | .cmdCount => false
  | .cmdCurrencypath _ _ => false
  | .cmdSetCount _ _ => false
  | .cmdSetCurrentCount _ _ => false
  | .cmdPayout _ _ => false
  | .rspEnable _ _ => true
  | .rspAccepting _ _ => true
  | .rspEscrow _ _ => true
  | .rspStacking _ _ => true
  | .rspVendValid _ _ => true
  | .rspStacked _ _ => true
  | .rspRejecting _ _ => true
  | .rspReturning _ _ => true
  | .rspDisable _ _ => true
  | .rspInitialize _ _ => true
  | .rspPowerUp _ _ => true
  | .rspStackerFull _ _ => true
  | .rspStackerOpen _ _ => true
  | .rspAcceptorJam _ _ => true
  | .rspStackerJam _ _ => true
  | .rspPaused _ _ => true
  | .rspCheated _ _ => true
  | .rspFailure _ _ => true
  | .rspComError _ _ => true
  | .rspInvalidCommand _ _ => true
  | .rspAck _ _ => true
  | .rspVersion _ _ => true
  | .rspDenominations _ _ => true
  | .rspInhibit _ _ => true
  | .rspPaying _ _ => true
  | .rspPayStay _ _ => true
  | .rspPayValid _ _ => true
  | .rspRecyclerUnitFailure _ _ => true
  | .rspPathCurrencypath _ _ => true
  | .rspPathCount _ _ => true
  | .rspPathSetCount _ _ => true
  | .rspPathSetCurrentCount _ _ => true
  | .rspPathUnrecognised _ _ => true
  | .rspUnknown _ _ => true
  | .rxTooShort _ _ => true
  | .rxCrcMismatch _ _ _ => true
  | .opReset => false
  | .opCrcClear => false
  | .opCrcByte _ => false
  | .opCrcRead => false
  | .opTxEncode _ _ _ => false
  | .opRxChunk _ => false
  | .opRxByte _ => false
  | .opFsmEvent _ _ => false
  | .opStuckFire => false
  | .opFsmNew => false
  | .opSessionRefresh => false
  | .opRxDeliver _ => false
  | .opHostEvent _ => false
  | .opHostEnable => false
  | .opHostDisable => false
  | .opHostStack => false
  | .opHostReject => false
  | .opHostEmergency => false
  | .opHostCount => false
  | .opHostCurrencypath _ _ => false
  | .opHostSetcount _ _ => false
  | .opHostSetcurrentcount _ _ => false
  | .opHostPayout _ _ => false
  | .opHostStatus => false
  | .opHostVersion => false

/-- What every successful transition to `t` leaves: the state, the flags (R266, R270, R272, R278, R279,
R290), and everything the glue does not own as it was. -/
def Entered (s u : State) (t : StateName) : Prop :=
  u.fsmState = t ∧
  u.stuckArmed = decide (t ∈ armingStates ∧ s.cfg.stuckMode = .byState) ∧
  u.disableFlag =
    (s.disableFlag && decide (s.fsmState ≠ .disable) && decide (t ≠ .enable) &&
      decide (t ≠ .disable)) ∧
  u.stuckFired = s.stuckFired ∧ u.crcAcc = s.crcAcc ∧ u.rxBuf = s.rxBuf ∧ u.cfg = s.cfg ∧
  u.inbox = s.inbox

/-- What an event that no rule admits leaves: everything (R267). -/
def Held (s u : State) : Prop :=
  u.fsmState = s.fsmState ∧ u.stuckArmed = s.stuckArmed ∧ u.disableFlag = s.disableFlag ∧
  u.stuckFired = s.stuckFired ∧ u.crcAcc = s.crcAcc ∧ u.rxBuf = s.rxBuf ∧ u.cfg = s.cfg ∧
  u.inbox = s.inbox ∧ u.denomTab = s.denomTab ∧ u.swVersion = s.swVersion ∧
  u.freeCount = s.freeCount

end Sys2Proof.Machine
end

