-- ==== Sys2Proof/Certificates/Slice0/Obligations.lean ====
section
/-! DEFINITION. The statements for the provers. Each docstring names the rules of the spec it rests on. -/

open Sys2Proof Sys2Proof.Machine

/-- Formalises R132. From every state op.CRC_CLEAR answers the next state that has crc_acc = CRC_INIT
and every other field as before. -/
def Obligations.CrcClearLoadsTheInitialValue : Prop :=
  ∀ s : State, exec .opCrcClear s = .next { s with crcAcc := s.cfg.crc.init }

/-- Formalises R133. From every state op.CRC_BYTE(b) answers the next state whose crc_acc is the old
one xored with the (reflected) byte in its high half and then shifted eight times, xoring CRC_POLY
in when bit 15 was 1; every other field is as before; a zero byte into a zero accumulator leaves
zero for every polynomial. -/
def Obligations.CrcByteAppliesEightShifts : Prop :=
  (∀ (b : Byte) (s : State),
    exec (.opCrcByte b) s = .next { s with
      crcAcc :=
        (fun c : Word => if c.getLsbD 15 then (c <<< 1) ^^^ s.cfg.crc.poly else c <<< 1)^[8]
          (s.crcAcc ^^^ ((if s.cfg.crc.refin then b.reverse else b).setWidth 16 <<< 8)) }) ∧
  ∀ s : State, s.crcAcc = 0 → exec (.opCrcByte 0) s = .next s

/-- Formalises R134. From every state op.CRC_READ answers the next state that differs only in one more
output, the accumulator reflected if CRC_REFOUT and xored with CRC_XOROUT. -/
def Obligations.CrcReadReportsTheFinishedValue : Prop :=
  ∀ s : State,
    exec .opCrcRead s = .next { s with
      out := s.out ++
        [.crcRead ((if s.cfg.crc.refout then s.crcAcc.reverse else s.crcAcc) ^^^ s.cfg.crc.xorout)] }

/-- Formalises R135. For every byte sequence and every state, running CRC_CLEAR, CRC_BYTE of each byte
in index order and CRC_READ answers a next state that reports crc16 of the sequence and differs
besides only in the accumulator. -/
def Obligations.ClearBytesReadComputesCrc16 : Prop :=
  ∀ (bytes : Bytes) (s : State),
    execAll (.opCrcClear :: (bytes.map .opCrcByte ++ [.opCrcRead])) s = .next { s with
      crcAcc := bytes.foldl (crcStep s.cfg.crc) s.cfg.crc.init
      out := s.out ++ [.crcRead (crc16 s.cfg.crc bytes)] }

/-- Derived from R137. For every CRC parameter value with CRC_POLY[0] = 1, every byte sequence, every
index and every other byte there, crc16 of the changed sequence differs from crc16 of the
original. (General knowledge in the spec, hence derived.) -/
def Obligations.ChangedByteChangesTheCrc : Prop :=
  ∀ c : CrcParams, c.poly.getLsbD 0 = true →
    ∀ (s : Bytes) (i : Nat) (x : Byte), i < s.length → s[i]? ≠ some x →
      crc16 c (s.set i x) ≠ crc16 c s

/-- Derived from R136. For every byte sequence the register of R136 that shifts right with 0x8408 ends
at crc16 under the default parameters, which are the model's PRESUMED defaults (log 11). -/
def Obligations.RightShiftingRealisationAgrees : Prop :=
  ∀ s : Bytes, crc16 defaultCrc s = crc16Right s

/-- Derived from R139. With CRC_REFIN = CRC_REFOUT = true, CRC_XOROUT = 0 and a polynomial with
constant term, crc16 over a body and two trailer bytes is 0 exactly when crc16 of the body is
their little-endian value. The constant term is the model's premise (log 28). -/
def Obligations.ZeroResidueIsTheComparison : Prop :=
  ∀ c : CrcParams, c.refin = true → c.refout = true → c.xorout = 0 → c.poly.getLsbD 0 = true →
    ∀ (body : Bytes) (a b : Byte), crc16 c (body ++ [a, b]) = 0 ↔ crc16 c body = le16 a b

/-- Derived from R151. From every state op.TX_ENCODE(id, p0, p1) answers a next state that differs
only in its outputs: without a template the error UnknownCommand(id); with one the dispatch
diagnostic and then the bytes, which are the stored ones when there are no slots, else the copy
with p0 and p1 in the slots and the CRC of the first L-2 bytes in the last two, low byte first.
For an ill-formed template whose slot lies outside the image (R150 excludes it) that the slot
writes nothing is the model's choice (log 7). -/
def Obligations.TxEncodeReturnsThePatchedImage : Prop :=
  ∀ (p0 p1 : Byte) (s : State),
    (∀ id : BitVec 4, (∀ c : CmdName, c.id = id → templateLookup s.cfg c = none) →
      exec (.opTxEncode id p0 p1) s = .next { s with out := s.out ++ [.txErr id] }) ∧
    ∀ (c : CmdName) (t : Template), templateLookup s.cfg c = some t → 2 ≤ t.bytes.length →
      (t.slots = none →
        exec (.opTxEncode c.id p0 p1) s = .next { s with
          out := s.out ++ [.diag (.dispatch c.id (some p0) (some p1)), .tx t.bytes] }) ∧
      ∀ i j : Nat, t.slots = some (i, j) →
        let patched := (t.bytes.set i p0).set j p1
        let crc := crc16 s.cfg.crc (patched.take (t.bytes.length - 2))
        exec (.opTxEncode c.id p0 p1) s = .next { s with
          out := s.out ++ [.diag (.dispatch c.id (some p0) (some p1)),
            .tx ((patched.set (t.bytes.length - 2) (lo8 crc)).set (t.bytes.length - 1) (hi8 crc))] }

/-- Formalises R152. op.TX_ENCODE(id, p0, p1) answers the next state that differs only in the output
UnknownCommand(id) exactly when no command with that id has a template; for id 15 it always does. -/
def Obligations.UnknownCommandExactlyWithoutTemplate : Prop :=
  (∀ (id : BitVec 4) (p0 p1 : Byte) (s : State),
    exec (.opTxEncode id p0 p1) s = .next { s with out := s.out ++ [.txErr id] } ↔
      ∀ c : CmdName, c.id = id → templateLookup s.cfg c = none) ∧
  ∀ (p0 p1 : Byte) (s : State),
    exec (.opTxEncode 15 p0 p1) s = .next { s with out := s.out ++ [.txErr 15] }

/-- Derived from R154, R160, R161, R162, R163, R164, R165, R166, R167, R168, R169, R170. From every
state each command row without parameters answers a next state that differs only in its outputs:
the dispatch diagnostic of its own id (0 to 10, R97) and the stored bytes of its own template (a
template without slots; one with slots is ill-formed by R150 and left out), or UnknownCommand of
its id when it has none. That the diagnostic shows none for a parameter the rules write - is the
model's choice (log 5). -/
def Obligations.PlainCommandsSendTheirStoredFrame : Prop :=
  ∀ r ∈ ([(.cmdStatus, .status, 0), (.cmdVersion, .version, 1),
       (.cmdDenominations, .denominations, 2), (.cmdAck, .ack, 3), (.cmdReset, .reset, 4),
       (.cmdStack, .stack, 5), (.cmdReject, .reject, 6), (.cmdInhibit, .inhibit, 7),
       (.cmdUnInhibit, .unInhibit, 8), (.cmdEmergency, .emergency, 9), (.cmdCount, .count, 10)] :
      List (Instr × CmdName × BitVec 4)),
    ∀ (s : State),
      (∀ bytes : Bytes, HasStored s.cfg r.2.1 bytes →
        exec r.1 s = .next { s with out := s.out ++ [.diag (.dispatch r.2.2 none none), .tx bytes] }) ∧
      (templateLookup s.cfg r.2.1 = none →
        exec r.1 s = .next { s with out := s.out ++ [.txErr r.2.2] })

/-- Derived from R96, R97, R155, R171, R172, R173, R174, R346, R347, R348, R349. From every state each
of currencypath, setCount, setCurrentCount, payout, as a command row and as a host operation,
answers a next state that differs only in its outputs: the dispatch diagnostic of its own id (11
to 14, R97) with both parameters and the image with the first parameter in slot 0, the second in
slot 1 and its CRC; or UnknownCommand when it has no template (a template without slots is ill-
formed by R150; TX_ENCODE of one is stated elsewhere). What it says of a template that R150
excludes, that a slot outside the image writes nothing and that an image of fewer than two bytes
becomes its CRC, is the model's choice (log 7). -/
def Obligations.ParametricCommandsPatchTheirFrame : Prop :=
  ∀ (p0 p1 : Byte), ∀ r ∈ ([(.cmdCurrencypath p0 p1, .currencypath, 11), (.cmdSetCount p0 p1, .setCount, 12),
      (.cmdSetCurrentCount p0 p1, .setCurrentCount, 13), (.cmdPayout p0 p1, .payout, 14),
      (.opHostCurrencypath p0 p1, .currencypath, 11), (.opHostSetcount p0 p1, .setCount, 12),
      (.opHostSetcurrentcount p0 p1, .setCurrentCount, 13), (.opHostPayout p0 p1, .payout, 14)] :
      List (Instr × CmdName × BitVec 4)),
    ∀ (s : State),
      (∀ (bytes : Bytes) (i j : Nat), templateLookup s.cfg r.2.1 = some ⟨bytes, some (i, j)⟩ →
        let body := (((bytes.set i p0).set j p1).take (bytes.length - 2))
        exec r.1 s = .next { s with
          out := s.out ++ [.diag (.dispatch r.2.2 (some p0) (some p1)),
            .tx (body ++ [lo8 (crc16 s.cfg.crc body), hi8 (crc16 s.cfg.crc body)])] }) ∧
      (templateLookup s.cfg r.2.1 = none →
        exec r.1 s = .next { s with out := s.out ++ [.txErr r.2.2] })

/-- Derived from R340, R342, R343, R344, R345, R350, R351, R355. From every state HOST_ENABLE
(unInhibit), HOST_STACK, HOST_REJECT, HOST_EMERGENCY, HOST_COUNT, HOST_STATUS and HOST_VERSION
answer a next state that differs only in its outputs: the dispatch diagnostic and the stored bytes
of that command, or UnknownCommand when it has no template (one with slots is ill-formed by R150
and left out); disable_flag is not touched. That the diagnostic shows none for a parameter the
rules write - is the model's choice (log 5). -/
def Obligations.HostCommandsSendTheirStoredFrame : Prop :=
  ∀ r ∈ ([(.opHostEnable, .unInhibit), (.opHostStack, .stack), (.opHostReject, .reject),
      (.opHostEmergency, .emergency), (.opHostCount, .count), (.opHostStatus, .status),
      (.opHostVersion, .version)] : List (Instr × CmdName)),
    ∀ (s : State),
      (∀ bytes : Bytes, HasStored s.cfg r.2 bytes →
        exec r.1 s = .next { s with out := s.out ++ sends r.2 bytes }) ∧
      (templateLookup s.cfg r.2 = none →
        exec r.1 s = .next { s with out := s.out ++ [.txErr r.2.id] })

/-- Derived from R341. In Disable op.HOST_DISABLE answers the same state; in Enable the next state
differs only in the outputs of sending inhibit (or UnknownCommand without a template); in every
other state it differs only in disable_flag = 1. That the diagnostic shows none for a parameter
the rules write - is the model's choice (log 5). -/
def Obligations.HostDisableTakesOneOfThreeBranches : Prop :=
  ∀ s : State,
    (s.fsmState = .disable → exec .opHostDisable s = .next s) ∧
    (s.fsmState = .enable →
      (∀ bytes : Bytes, HasStored s.cfg .inhibit bytes →
        exec .opHostDisable s = .next { s with out := s.out ++ sends .inhibit bytes }) ∧
      (templateLookup s.cfg .inhibit = none →
        exec .opHostDisable s = .next { s with out := s.out ++ [.txErr 7] })) ∧
    (s.fsmState ≠ .disable → s.fsmState ≠ .enable →
      exec .opHostDisable s = .next { s with disableFlag := true })

/-- Derived from R157. For every command with a well-formed template and every parameters, RX_CHUNK of
its image from an empty buffer answers a next state that differs only in the frame-out register
and one frame output: not malformed, decoded or unknown as RSP_ROM has the template's opcode or
not, with that opcode and the image's payload. That RX_CHUNK drives the frame-out register is the
model's reading (log 29). -/
def Obligations.EncodedCommandComesBackAsOneFrame : Prop :=
  ∀ (s : State) (c : CmdName) (t : Template) (p0 p1 : Byte), s.rxBuf = [] →
    templateLookup s.cfg c = some t → templateWf s.cfg.crc c t = true →
    ∃ o : FrameOutcome,
      exec (.opRxChunk (commandImage s.cfg.crc t p0 p1)) s =
        .next { s with frm := some o, out := s.out ++ [.frame o] } ∧
      o.opcode? = t.bytes[2]? ∧
      o.payload = ((commandImage s.cfg.crc t p0 p1).take (t.bytes.length - 2)).drop 3 ∧
      o.status = if (rspLookup s.cfg (t.bytes.getD 2 0)).isSome then 0 else 2

/-- Derived from R266, R269, R270, R272, R278, R279, R290, R291. When next(ev, fsm_state) = some(t),
op.FSM_EVENT(ev, data) answers the next state with fsm_state = t; stuck_armed set, and the
stuck_start pulse given, exactly when t is one of Returning, Stacking, Stacked, Accepting,
Rejecting and STUCK_MODE = by_state; disable_flag cleared when Disable is left or Enable or
Disable entered and else kept; every other field kept; outputs: the stuck_start pulse if armed,
the exit emits, the entry emits, the dispatches, the result Ok. That the pulse, on its own port,
stands before the exit emits, and the result last, is the model's choice (log 3, 35); the emits of
data of another shape are its reading (log 20). -/
def Obligations.AdmittedEventMakesTheTransition : Prop :=
  ∀ (ev : Event) (data : EventData) (s : State) (t : StateName),
    nextState s.cfg.rules ev s.fsmState = some t →
    exec (.opFsmEvent ev data) s = .next { s with
      fsmState := t
      stuckArmed := decide (t ∈ ([.returning, .stacking, .stacked, .accepting, .rejecting] : List StateName) ∧
        s.cfg.stuckMode = .byState)
      disableFlag := s.disableFlag && decide (s.fsmState ≠ .disable) && decide (t ≠ .enable) &&
        decide (t ≠ .disable)
      out := s.out ++
        (if t ∈ ([.returning, .stacking, .stacked, .accepting, .rejecting] : List StateName) ∧
          s.cfg.stuckMode = .byState then [.stuckStart] else []) ++
        (readyIf s.fsmState ++ entryEmits t s.fsmState data).map .emit ++
        (entryDispatches t s.fsmState (s.disableFlag && decide (s.fsmState ≠ .disable))).map .request ++
        [.result .ok] }

/-- Formalises R267. When no rule admits the event in the current state, op.FSM_EVENT answers the next
state that differs only in two more outputs: the diagnostic record with the event and the state,
and the result InvalidTransition. -/
def Obligations.InvalidTransitionChangesNothing : Prop :=
  ∀ (ev : Event) (data : EventData) (s : State),
    nextState s.cfg.rules ev s.fsmState = none →
    exec (.opFsmEvent ev data) s = .next { s with
      out := s.out ++ [.diag (.invalidTransition ev.code s.fsmState), .result .invalidTransition] }

/-- Derived from R264, R265. For a well-formed rule table, next(ev, s) = some(t) exactly when some
rule for ev has target t and a source that is the wildcard or contains s; and permuting the table
changes no lookup. -/
def Obligations.LookupUnderWellFormedRules : Prop :=
  ∀ rules : List Rule, rulesWf rules = true → ∀ (ev : Event) (s : StateName),
    (∀ t : StateName, nextState rules ev s = some t ↔
      ∃ r ∈ rules, r.ev = ev ∧ r.tgt = t ∧
        (r.src = .wildcard ∨ ∃ l, r.src = .states l ∧ s ∈ l)) ∧
    ∀ rules' : List Rule, rules'.Perm rules → nextState rules' ev s = nextState rules ev s

/-- Derived from R271, R273, R276, R277, R280, R282, R293, R294, R295, R296, R297, R298. A successful
FSM_EVENT into each of 22 states emits ready if Connected was left, then the state's own event or
nothing, and dispatches ack for PayValid and nothing for the others. -/
def Obligations.SimpleEntryHooksEmitAndDispatch : Prop :=
  ∀ r ∈ ([(.powerUp, [.powerUp], []), (.payStay, [.onpaystay], []),
      (.payValid, [.onpayvalid], [.ack]), (.accepting, [.billAccepted], []),
      (.returning, [.billRejected (some .returned) none], []), (.stackerOpen, [.stackerOpen], []),
      (.stackerFull, [.stackerFull], []), (.acceptorJam, [.acceptorJam], []),
      (.stackerJam, [.stackerJam], []), (.cheated, [.cheated], []), (.start, [], []),
      (.connected, [], []), (.refresh, [], []), (.initialise, [], []), (.stacking, [], []),
      (.failure, [], []), (.comError, [], []), (.badFrame, [], []), (.paying, [], []),
      (.invalidCommand, [], []), (.recyclerUnitFailure, [], []), (.paused, [], [])] :
      List (StateName × List DomainEvent × List CmdName)),
    ∀ (ev : Event) (data : EventData) (s : State), nextState s.cfg.rules ev s.fsmState = some r.1 →
      ∃ (u : State) (o : List Output), exec (.opFsmEvent ev data) s = .next u ∧ Entered s u r.1 ∧
        u.out = s.out ++ o ∧ emitsOf o = readyIf s.fsmState ++ r.2.1 ∧ requestsOf o = r.2.2 ∧
        u.denomTab = s.denomTab ∧ u.swVersion = s.swVersion

/-- Formalises R278. A successful FSM_EVENT into Enable leaves disable_flag = 0, emits nothing of its
own, and dispatches inhibit exactly when disable_flag was still 1 after the exit hook. -/
def Obligations.EnteringEnableServesADeferredDisable : Prop :=
  ∀ (ev : Event) (data : EventData) (s : State), nextState s.cfg.rules ev s.fsmState = some .enable →
    ∃ (u : State) (o : List Output), exec (.opFsmEvent ev data) s = .next u ∧ Entered s u .enable ∧
      u.disableFlag = false ∧ u.out = s.out ++ o ∧ emitsOf o = readyIf s.fsmState ∧
      requestsOf o = (if s.disableFlag = true ∧ s.fsmState ≠ .disable then [.inhibit] else [])

/-- Formalises R279. A successful FSM_EVENT into Disable leaves disable_flag = 0, dispatches nothing,
and emits standby exactly when the state left is Initialize. -/
def Obligations.EnteringDisableFromInitializeEmitsStandby : Prop :=
  ∀ (ev : Event) (data : EventData) (s : State), nextState s.cfg.rules ev s.fsmState = some .disable →
    ∃ (u : State) (o : List Output), exec (.opFsmEvent ev data) s = .next u ∧ Entered s u .disable ∧
      u.disableFlag = false ∧ u.out = s.out ++ o ∧ requestsOf o = [] ∧
      emitsOf o = readyIf s.fsmState ++ (if s.fsmState = .initialise then [.standby] else [])

/-- Formalises R289. A successful FSM_EVENT into VendValid from Connected emits only ready and
dispatches reset; from any other state it emits billValid and dispatches ack. -/
def Obligations.EnteringVendValidHasTheWarmResetQuirk : Prop :=
  ∀ (ev : Event) (data : EventData) (s : State),
    nextState s.cfg.rules ev s.fsmState = some .vendValid →
    ∃ (u : State) (o : List Output), exec (.opFsmEvent ev data) s = .next u ∧ Entered s u .vendValid ∧
      u.out = s.out ++ o ∧
      (s.fsmState = .connected → emitsOf o = [.ready] ∧ requestsOf o = [.reset]) ∧
      (s.fsmState ≠ .connected → emitsOf o = [.billValid] ∧ requestsOf o = [.ack])

/-- Derived from R274, R275, R281, R283, R284, R285, R286, R287, R288, R302. A successful FSM_EVENT
into Rejecting, Escrow, Stacked, Denominations, Version or a path state emits, after a possible
ready, the event of that state with the fields of the data; with data of any other shape (NoData
among them) the fields are none (that a whole payload is then none is the model's reading, log
20). Nothing is dispatched. -/
def Obligations.DataEntryHooksCarryTheEventData : Prop :=
  (∀ (code path : Option Byte) (den : Option (Byte × Byte)) (reason : Option ReasonName)
    (es : List DenomEntry) (text : Bytes) (d : PathData),
    ∀ r ∈ ([(.rejecting, .reject code reason, .billRejected (reason.map .table) code),
      (.escrow, .escrow code den, .billRead den code), (.stacked, .stacked path, .billStacked path),
      (.denominations, .denoms es, .denominations (some es)),
      (.version, .version text, .version (some text)), (.currencyPath, .path d, .pathCurrency (some d)),
      (.setCount, .path d, .pathSetCount (some d)),
      (.setCurrentCount, .path d, .pathSetCurrentCount (some d)),
      (.count, .path d, .pathCount (some d))] :
      List (StateName × EventData × DomainEvent)),
    ∀ (ev : Event) (s : State), nextState s.cfg.rules ev s.fsmState = some r.1 →
      ∃ (u : State) (o : List Output), exec (.opFsmEvent ev r.2.1) s = .next u ∧ Entered s u r.1 ∧
        u.out = s.out ++ o ∧ emitsOf o = readyIf s.fsmState ++ [r.2.2] ∧ requestsOf o = [] ∧
        u.denomTab = s.denomTab ∧ u.swVersion = s.swVersion) ∧
  ∀ r ∈ ([(.rejecting, .billRejected none none), (.escrow, .billRead none none),
      (.stacked, .billStacked none), (.denominations, .denominations none),
      (.version, .version none), (.currencyPath, .pathCurrency none),
      (.setCount, .pathSetCount none), (.setCurrentCount, .pathSetCurrentCount none),
      (.count, .pathCount none)] : List (StateName × DomainEvent)),
    ∀ (data : EventData) (ev : Event) (s : State), dataFits r.1 data = false →
      nextState s.cfg.rules ev s.fsmState = some r.1 →
      ∃ (u : State) (o : List Output), exec (.opFsmEvent ev data) s = .next u ∧ Entered s u r.1 ∧
        u.out = s.out ++ o ∧ emitsOf o = readyIf s.fsmState ++ [r.2] ∧ requestsOf o = [] ∧
        u.denomTab = s.denomTab ∧ u.swVersion = s.swVersion

/-- Formalises R292. With stuck_armed = 1 op.STUCK_FIRE answers the next state with stuck_armed = 0,
stuck_fired = 1 and one more output, the stuck event; with stuck_armed = 0 it answers the same
state; so twice in a row it raises stuck once. -/
def Obligations.StuckFireRaisesStuckOnceWhileArmed : Prop :=
  ∀ s : State,
    (s.stuckArmed = true →
      exec .opStuckFire s = .next { s with
        stuckArmed := false, stuckFired := true, out := s.out ++ [.emit .stuck] } ∧
      execAll [.opStuckFire, .opStuckFire] s = exec .opStuckFire s) ∧
    (s.stuckArmed = false → exec .opStuckFire s = .next s)

/-- Derived from R290. If STUCK_MODE = never and stuck_armed = 0, every next state of step has
stuck_armed = 0 and the same STUCK_MODE. -/
def Obligations.NeverModeNeverArmsTheTimer : Prop :=
  ∀ s s' : State, s.cfg.stuckMode = .never → s.stuckArmed = false → step s = .next s' →
    s'.stuckArmed = false ∧ s'.cfg.stuckMode = .never

/-- Derived from R299, R263. Under a well-formed RULE_ROM with the badFrame wildcard,
op.FSM_EVENT(badFrame, NoData) answers the next state with fsm_state = BadFrame, stuck_armed = 0,
disable_flag cleared only if Disable was left, and the outputs ready (if Connected was left) and
Ok; every other field is kept. -/
def Obligations.BadFrameEventAlwaysSucceeds : Prop :=
  ∀ s : State, rulesWf s.cfg.rules = true →
    exec (.opFsmEvent .badFrame .noData) s = .next { s with
      fsmState := .badFrame
      stuckArmed := false
      disableFlag := s.disableFlag && decide (s.fsmState ≠ .disable)
      out := s.out ++ (readyIf s.fsmState).map .emit ++ [.result .ok] }

/-- Derived from R107, R335, R338, R339, R354. For each of the 33 events with its code of R107, if
admitted, op.HOST_EVENT of that code answers the next state of the transition, the outputs being
the stuck_start pulse if armed, for every emit in order its publication (for the billRead without
denomination of an entry to Escrow the automatic reject command instead), then for every
dispatched command its diagnostic and stored frame, then Ok; a command without a template gives
UnknownCommand instead and the transition stands. The order across ports (log 3), none in the
dispatch diagnostic (log 5) and the none payloads of NoData (log 20) are the model's. -/
def Obligations.HostEventTransitionsThenActs : Prop :=
  ∀ r ∈ ([(.powerUp, 1), (.denominations, 2), (.version, 3), (.connect, 4), (.refresh, 5),
     (.initialise, 6), (.enable, 7), (.disable, 8), (.accepting, 9), (.escrow, 10),
     (.stacking, 11), (.vendValid, 12), (.stacked, 13), (.rejecting, 14), (.returning, 15),
     (.stackerOpen, 16), (.stackerFull, 17), (.acceptorJam, 18), (.stackerJam, 19),
     (.cheated, 20), (.failure, 21), (.comError, 22), (.badFrame, 23), (.currencypath, 24),
     (.setCount, 25), (.setCurrentCount, 26), (.count, 27), (.paying, 28), (.payStay, 29),
     (.payValid, 30), (.invalidCommand, 31), (.recyclerUnitFailure, 32), (.paused, 33)] :
      List (Event × BitVec 6)),
    ∀ (s : State) (t : StateName) (sent : CmdName → List Output),
    nextState s.cfg.rules r.1 s.fsmState = some t → SendsAs s.cfg sent →
    exec (.opHostEvent r.2) s = .next { s with
      fsmState := t
      stuckArmed := decide (t ∈ armingStates ∧ s.cfg.stuckMode = .byState)
      disableFlag := s.disableFlag && decide (s.fsmState ≠ .disable) && decide (t ≠ .enable) &&
        decide (t ≠ .disable)
      out := s.out ++ armOutputs s.cfg.stuckMode t ++
        (readyIf s.fsmState ++ entryEmits t s.fsmState .noData).flatMap (published sent) ++
        (entryDispatches t s.fsmState (s.disableFlag && decide (s.fsmState ≠ .disable))).flatMap sent ++
        [.result .ok] }

/-- Derived from R114, R267, R339. For a code of ev_code that no event has (0 and 34 to 63), and for
the code of an event that no rule admits in the current state, op.HOST_EVENT answers the next
state that differs only in the diagnostic record and the result InvalidTransition. -/
def Obligations.HostEventWithoutARuleIsInvalid : Prop :=
  ∀ (code : BitVec 6) (s : State),
    (code = 0 ∨ 34 ≤ code.toNat ∨
      ∀ ev : Event, ev.code = code → nextState s.cfg.rules ev s.fsmState = none) →
    exec (.opHostEvent code) s = .next { s with
      out := s.out ++ [.diag (.invalidTransition code s.fsmState), .result .invalidTransition] }

/-- Derived from R331, R335, R338, R243, R244, R245, R246, R242, R463. From every state each of the 31
response rows answers a next state: the frame-out register holds its opcode and payload, the new
outputs begin with the frame and the msg_seen pulse, which occurs once, and the state machine has
taken the event of the response's name (for the path kinds count, setCount, setCurrentCount the
override's) if a rule admits it and is held otherwise. For the 21 rows without a decoded payload
and an admitted event the whole next state is stated: after the frame and msg_seen the outputs of
HOST_EVENT's transition without its result. The order across ports (log 3), none in the dispatch
diagnostic (log 5) and the none payloads of NoData (log 20) are the model's. -/
def Obligations.ResponseRowsRaiseTheEventOfTheirName : Prop :=
  (∀ (opcode : Byte) (payload : Bytes),
    ∀ r ∈ ([(.rspEnable opcode payload, .enable), (.rspAccepting opcode payload, .accepting),
       (.rspEscrow opcode payload, .escrow), (.rspStacking opcode payload, .stacking),
       (.rspVendValid opcode payload, .vendValid), (.rspStacked opcode payload, .stacked),
       (.rspRejecting opcode payload, .rejecting), (.rspReturning opcode payload, .returning),
       (.rspDisable opcode payload, .disable), (.rspInitialize opcode payload, .initialise),
       (.rspPowerUp opcode payload, .powerUp), (.rspStackerFull opcode payload, .stackerFull),
       (.rspStackerOpen opcode payload, .stackerOpen),
       (.rspAcceptorJam opcode payload, .acceptorJam),
       (.rspStackerJam opcode payload, .stackerJam), (.rspPaused opcode payload, .paused),
       (.rspCheated opcode payload, .cheated), (.rspFailure opcode payload, .failure),
       (.rspComError opcode payload, .comError),
       (.rspInvalidCommand opcode payload, .invalidCommand),
       (.rspVersion opcode payload, .version), (.rspDenominations opcode payload, .denominations),
       (.rspPaying opcode payload, .paying), (.rspPayStay opcode payload, .payStay),
       (.rspPayValid opcode payload, .payValid),
       (.rspRecyclerUnitFailure opcode payload, .recyclerUnitFailure),
       (.rspPathCurrencypath opcode payload, .currencypath),
       (.rspPathCount opcode payload, .count), (.rspPathSetCount opcode payload, .setCount),
       (.rspPathSetCurrentCount opcode payload, .setCurrentCount),
       (.rspPathUnrecognised opcode payload, .currencypath)] :
      List (Instr × Event)),
    ∀ (s : State), ∃ (u : State) (o : FrameOutcome) (l : List Output),
      exec r.1 s = .next u ∧ u.frm = some o ∧ o.status = 0 ∧ o.opcode? = some opcode ∧
      o.payload = payload ∧ u.out = s.out ++ .frame o :: .msgSeen :: l ∧ msgSeenCount l = 0 ∧
      (nextState s.cfg.rules r.2 s.fsmState = none → Held s u) ∧
      ∀ t, nextState s.cfg.rules r.2 s.fsmState = some t → Entered s u t) ∧
  ∀ (opcode : Byte) (payload : Bytes),
    ∀ r ∈ ([(.rspEnable opcode payload, .enable, .enable),
       (.rspAccepting opcode payload, .accepting, .accepting),
       (.rspStacking opcode payload, .stacking, .stacking),
       (.rspVendValid opcode payload, .vendValid, .vendValid),
       (.rspReturning opcode payload, .returning, .returning),
       (.rspDisable opcode payload, .disable, .disable),
       (.rspInitialize opcode payload, .initialise, .initialise),
       (.rspPowerUp opcode payload, .powerUp, .powerUp),
       (.rspStackerFull opcode payload, .stackerFull, .stackerFull),
       (.rspStackerOpen opcode payload, .stackerOpen, .stackerOpen),
       (.rspAcceptorJam opcode payload, .acceptorJam, .acceptorJam),
       (.rspStackerJam opcode payload, .stackerJam, .stackerJam),
       (.rspPaused opcode payload, .paused, .paused),
       (.rspCheated opcode payload, .cheated, .cheated),
       (.rspFailure opcode payload, .failure, .failure),
       (.rspComError opcode payload, .comError, .comError),
       (.rspInvalidCommand opcode payload, .invalidCommand, .invalidCommand),
       (.rspPaying opcode payload, .paying, .paying),
       (.rspPayStay opcode payload, .payStay, .payStay),
       (.rspPayValid opcode payload, .payValid, .payValid),
       (.rspRecyclerUnitFailure opcode payload, .recyclerUnitFailure, .recyclerUnitFailure)] :
      List (Instr × RspName × Event)),
    ∀ (s : State) (t : StateName) (sent : CmdName → List Output),
      nextState s.cfg.rules r.2.2 s.fsmState = some t → SendsAs s.cfg sent →
      exec r.1 s = .next { s with
        frm := some (.decoded r.2.1 none .noData opcode payload)
        fsmState := t
        stuckArmed := decide (t ∈ armingStates ∧ s.cfg.stuckMode = .byState)
        disableFlag := s.disableFlag && decide (s.fsmState ≠ .disable) && decide (t ≠ .enable) &&
          decide (t ≠ .disable)
        out := s.out ++ [.frame (.decoded r.2.1 none .noData opcode payload), .msgSeen] ++
          armOutputs s.cfg.stuckMode t ++
          (readyIf s.fsmState ++ entryEmits t s.fsmState .noData).flatMap (published sent) ++
          (entryDispatches t s.fsmState (s.disableFlag && decide (s.fsmState ≠ .disable))).flatMap
            sent }

/-- Derived from R331, R423, R267. When no rule admits the event (for the path kinds count, setCount,
setCurrentCount the override's), each of the 31 response rows answers the next state that differs
only in the frame-out register, the frame output with the decoded payload, the msg_seen pulse and
the diagnostic record: nothing is emitted, no command is sent (not the automatic reject of an
escrow either) and no cache is filled. -/
def Obligations.ResponseWithoutARuleIsLost : Prop :=
  ∀ (opcode : Byte) (payload : Bytes) (s : State),
    ∀ r ∈ ([(.rspEnable opcode payload, .decoded .enable none .noData opcode payload, .enable),
       (.rspAccepting opcode payload, .decoded .accepting none .noData opcode payload, .accepting),
       (.rspStacking opcode payload, .decoded .stacking none .noData opcode payload, .stacking),
       (.rspVendValid opcode payload, .decoded .vendValid none .noData opcode payload, .vendValid),
       (.rspReturning opcode payload, .decoded .returning none .noData opcode payload, .returning),
       (.rspDisable opcode payload, .decoded .disable none .noData opcode payload, .disable),
       (.rspInitialize opcode payload, .decoded .initialise none .noData opcode payload,
         .initialise),
       (.rspPowerUp opcode payload, .decoded .powerUp none .noData opcode payload, .powerUp),
       (.rspStackerFull opcode payload, .decoded .stackerFull none .noData opcode payload,
         .stackerFull),
       (.rspStackerOpen opcode payload, .decoded .stackerOpen none .noData opcode payload,
         .stackerOpen),
       (.rspAcceptorJam opcode payload, .decoded .acceptorJam none .noData opcode payload,
         .acceptorJam),
       (.rspStackerJam opcode payload, .decoded .stackerJam none .noData opcode payload,
         .stackerJam),
       (.rspPaused opcode payload, .decoded .paused none .noData opcode payload, .paused),
       (.rspCheated opcode payload, .decoded .cheated none .noData opcode payload, .cheated),
       (.rspFailure opcode payload, .decoded .failure none .noData opcode payload, .failure),
       (.rspComError opcode payload, .decoded .comError none .noData opcode payload, .comError),
       (.rspInvalidCommand opcode payload, .decoded .invalidCommand none .noData opcode payload,
         .invalidCommand),
       (.rspPaying opcode payload, .decoded .paying none .noData opcode payload, .paying),
       (.rspPayStay opcode payload, .decoded .payStay none .noData opcode payload, .payStay),
       (.rspPayValid opcode payload, .decoded .payValid none .noData opcode payload, .payValid),
       (.rspRecyclerUnitFailure opcode payload, .decoded .recyclerUnitFailure none .noData opcode
         payload, .recyclerUnitFailure),
       (.rspEscrow opcode payload, .decoded .escrow none (.escrow payload.head?
         (payload.head?.bind fun c => s.denomTab.bind fun m => tabLookup m c)) opcode payload,
         .escrow),
       (.rspStacked opcode payload, .decoded .stacked none (.stacked payload.head?) opcode
         payload, .stacked),
       (.rspRejecting opcode payload, .decoded .rejecting none (.reject payload.head?
         (payload.head?.bind (rejLookup s.cfg))) opcode payload, .rejecting),
       (.rspVersion opcode payload, .decoded .version none (.version payload) opcode payload,
         .version),
       (.rspDenominations opcode payload, .decoded .denominations none (.denoms (denomEntries
         payload)) opcode payload, .denominations),
       (.rspPathCurrencypath opcode payload, .decoded .currencypath none (.path (pathData s.cfg
         (some .currencyPath) payload)) opcode payload, .currencypath),
       (.rspPathCount opcode payload, .decoded .currencypath (some .count) (.path (pathData s.cfg
         (some .count) payload)) opcode payload, .count),
       (.rspPathSetCount opcode payload, .decoded .currencypath (some .setCount) (.path (pathData
         s.cfg (some .setCount) payload)) opcode payload, .setCount),
       (.rspPathSetCurrentCount opcode payload, .decoded .currencypath (some .setCurrentCount)
         (.path (pathData s.cfg (some .setCurrentCount) payload)) opcode payload, .setCurrentCount),
       (.rspPathUnrecognised opcode payload, .decoded .currencypath none (.path (pathData s.cfg
         none payload)) opcode payload, .currencypath)] :
      List (Instr × FrameOutcome × Event)),
    nextState s.cfg.rules r.2.2 s.fsmState = none →
      exec r.1 s = .next { s with
        frm := some r.2.1
        out := s.out ++ [.frame r.2.1, .msgSeen,
          .diag (.invalidTransition r.2.2.code s.fsmState)] }

/-- Formalises R332. From every state the rows rsp.ack and rsp.inhibit answer the next state that
differs only in the frame-out register, the frame output and one msg_seen pulse. -/
def Obligations.AckAndInhibitAreConsumedSilently : Prop :=
  ∀ (opcode : Byte) (payload : Bytes),
    ∀ r ∈ ([(.rspAck opcode payload, .ack), (.rspInhibit opcode payload, .inhibit)] :
      List (Instr × RspName)),
    ∀ (s : State),
      exec r.1 s = .next { s with
        frm := some (.decoded r.2 none .noData opcode payload)
        out := s.out ++ [.frame (.decoded r.2 none .noData opcode payload), .msgSeen] }

/-- Formalises R334. From every state the row rsp.unknown answers the next state that differs only in
the frame-out register, the frame output and the report of its opcode. -/
def Obligations.UnknownResponseIsReported : Prop :=
  ∀ (opcode : Byte) (payload : Bytes) (s : State),
    exec (.rspUnknown opcode payload) s = .next { s with
      frm := some (.unknownResponse opcode payload)
      out := s.out ++ [.frame (.unknownResponse opcode payload), .unkRsp opcode] }

/-- Derived from R333, R299, R362, R363. Under a well-formed RULE_ROM both malformed rows answer a
next state in BadFrame with the timer cancelled, the caches kept, the reason on the frame-out
register; the only emit is ready if Connected was left, nothing is transmitted and msg_seen is not
pulsed. -/
def Obligations.MalformedFrameRaisesBadFrame : Prop :=
  ∀ (len opcode : Byte) (rest payload : Bytes) (trailer : Word),
    ∀ r ∈ ([(.rxTooShort len rest, .tooShort),
      (.rxCrcMismatch opcode payload trailer, .crcMismatch)] : List (Instr × MalformedReason)),
    ∀ (s : State), rulesWf s.cfg.rules = true → ∃ (u : State) (l : List Output),
      exec r.1 s = .next u ∧ Entered s u .badFrame ∧ u.frm = some (.malformed r.2) ∧
      u.denomTab = s.denomTab ∧ u.swVersion = s.swVersion ∧ u.out = s.out ++ l ∧
      emitsOf l = readyIf s.fsmState ∧ txOf l = [] ∧ msgSeenCount l = 0

/-- Derived from R335, R338, R231, R166. When the event escrow leads to Escrow and the table has no
entry for the code (or is absent, or there is no code byte), rsp.escrow answers a next state in
Escrow whose new emits hold no billRead (only ready, if Connected was left); if reject has a
stored frame that frame is all that is transmitted, and if it has no template nothing is
transmitted, UnknownCommand(6) is reported and the transition stands. -/
def Obligations.UnresolvedEscrowIsRejected : Prop :=
  ∀ (opcode : Byte) (payload : Bytes) (s : State),
    nextState s.cfg.rules .escrow s.fsmState = some .escrow →
    (∀ m c, s.denomTab = some m → payload[0]? = some c → tabLookup m c = none) →
    ∃ (u : State) (l : List Output), exec (.rspEscrow opcode payload) s = .next u ∧
      Entered s u .escrow ∧ u.denomTab = s.denomTab ∧ u.swVersion = s.swVersion ∧
      u.out = s.out ++ l ∧ emitsOf l = readyIf s.fsmState ∧
      (∀ bytes, HasStored s.cfg .reject bytes → txOf l = [bytes] ∧ .txErr 6 ∉ l) ∧
      (templateLookup s.cfg .reject = none → txOf l = [] ∧ .txErr 6 ∈ l)

/-- Derived from R231, R283, R335. When the event escrow leads to Escrow and the table has an entry
for the first payload byte, rsp.escrow answers a next state in Escrow whose new emits end with
billRead of that entry and that byte and which transmits nothing. -/
def Obligations.ResolvedEscrowIsPublished : Prop :=
  ∀ (opcode c : Byte) (payload : Bytes) (m : DenomTab) (d : Byte × Byte) (s : State),
    nextState s.cfg.rules .escrow s.fsmState = some .escrow → s.denomTab = some m →
    tabLookup m c = some d →
    ∃ (u : State) (l : List Output), exec (.rspEscrow opcode (c :: payload)) s = .next u ∧
      Entered s u .escrow ∧ u.denomTab = s.denomTab ∧ u.swVersion = s.swVersion ∧
      u.out = s.out ++ l ∧ emitsOf l = readyIf s.fsmState ++ [.billRead (some d) (some c)] ∧
      txOf l = []

/-- Derived from R232, R235, R281, R284. When its event leads to its namesake state, rsp.rejecting
emits billRejected with REJ_ROM of the first payload byte and that byte (none for both with an
empty payload), and rsp.stacked emits billStacked with the first payload byte or none; nothing is
transmitted. -/
def Obligations.RejectingAndStackedCarryTheirFirstByte : Prop :=
  ∀ (opcode : Byte) (payload : Bytes) (s : State),
    (nextState s.cfg.rules .rejecting s.fsmState = some .rejecting →
      ∃ (u : State) (l : List Output), exec (.rspRejecting opcode payload) s = .next u ∧
        Entered s u .rejecting ∧ u.out = s.out ++ l ∧ txOf l = [] ∧
        emitsOf l = readyIf s.fsmState ++
          [.billRejected ((payload.head?.bind (rejLookup s.cfg)).map .table) payload.head?]) ∧
    (nextState s.cfg.rules .stacked s.fsmState = some .stacked →
      ∃ (u : State) (l : List Output), exec (.rspStacked opcode payload) s = .next u ∧
        Entered s u .stacked ∧ u.out = s.out ++ l ∧ txOf l = [] ∧
        emitsOf l = readyIf s.fsmState ++ [.billStacked payload.head?])

/-- Derived from R336, R233, R30, R274. When its event leads to Denominations, rsp.denominations
answers a next state: an absent table becomes a table in which every code reads the last entry of
the payload with that code (or none), a present table is kept; the version cache is kept; the
decoded entries are emitted either way and nothing is transmitted (that they are emitted besides
filling the table is the model's reading, log 18). -/
def Obligations.DenominationTableIsWrittenOnce : Prop :=
  ∀ (opcode : Byte) (payload : Bytes) (s : State),
    nextState s.cfg.rules .denominations s.fsmState = some .denominations →
    ∃ (u : State) (l : List Output), exec (.rspDenominations opcode payload) s = .next u ∧
      Entered s u .denominations ∧ u.swVersion = s.swVersion ∧ u.out = s.out ++ l ∧
      emitsOf l = readyIf s.fsmState ++ [.denominations (some (denomEntries payload))] ∧
      txOf l = [] ∧
      (∀ m, s.denomTab = some m → u.denomTab = some m) ∧
      (s.denomTab = none → ∃ m, u.denomTab = some m ∧ ∀ c : Byte,
        tabLookup m c = ((denomEntries payload).reverse.find? fun e => e.code = c).map
          fun e => (e.sig, e.exp))

/-- Derived from R337, R234, R275. When its event leads to Version, rsp.version answers a next state
whose version cache is the old one if present and else the whole payload, which is emitted; the
denomination table is kept (that the emit is published besides filling the cache is the model's
reading, log 18). -/
def Obligations.VersionIsCachedOnce : Prop :=
  ∀ (opcode : Byte) (payload : Bytes) (s : State),
    nextState s.cfg.rules .version s.fsmState = some .version →
    ∃ (u : State) (l : List Output), exec (.rspVersion opcode payload) s = .next u ∧
      Entered s u .version ∧ u.denomTab = s.denomTab ∧
      u.swVersion = some (s.swVersion.getD payload) ∧ u.out = s.out ++ l ∧
      emitsOf l = readyIf s.fsmState ++ [.version (some payload)] ∧ txOf l = []

/-- Derived from R241, R242, R243, R244, R245, R246, R285, R286, R287, R288. When the (overriding)
event leads to its namesake state, each path row emits its event with the kind, the three fields
at the offsets PATH_LAYOUT gives the kind (none where an offset is absent or beyond the payload)
and the raw payload; without a kind all fields are none. Nothing is transmitted. -/
def Obligations.PathRowsEmitTheirFields : Prop :=
  ∀ (opcode : Byte) (payload : Bytes) (s : State),
    let field (o : Option Nat) : Option Byte := o.bind fun i => payload[i]?
    let fields (k : Kind) : PathData :=
      { kind := some k, status := field (layoutLookup s.cfg k).status,
        a := field (layoutLookup s.cfg k).a, b := field (layoutLookup s.cfg k).b, raw := payload }
    ∀ r ∈ ([(.rspPathCurrencypath opcode payload, .currencypath, .currencyPath,
        .pathCurrency (some (fields .currencyPath))),
      (.rspPathCount opcode payload, .count, .count, .pathCount (some (fields .count))),
      (.rspPathSetCount opcode payload, .setCount, .setCount,
        .pathSetCount (some (fields .setCount))),
      (.rspPathSetCurrentCount opcode payload, .setCurrentCount, .setCurrentCount,
        .pathSetCurrentCount (some (fields .setCurrentCount))),
      (.rspPathUnrecognised opcode payload, .currencypath, .currencyPath,
        .pathCurrency (some ⟨none, none, none, none, payload⟩))] :
      List (Instr × Event × StateName × DomainEvent)),
    nextState s.cfg.rules r.2.1 s.fsmState = some r.2.2.1 →
      ∃ (u : State) (l : List Output), exec r.1 s = .next u ∧ Entered s u r.2.2.1 ∧
        u.denomTab = s.denomTab ∧ u.swVersion = s.swVersion ∧ u.out = s.out ++ l ∧
        emitsOf l = readyIf s.fsmState ++ [r.2.2.2] ∧ txOf l = []

/-- Derived from R233. The entries decoded from a payload are, for k = 0, 1, ... while 4k + 4 <=
len(payload), the code at 4k, the significand at 4k+2 and the exponent at 4k+3, where the
significand is not 0; the byte at 4k+1 and trailing bytes are ignored. -/
def Obligations.DenominationEntriesAreFourByteRuns : Prop :=
  ∀ payload : Bytes,
    denomEntries payload = (List.range (payload.length / 4)).filterMap fun k =>
      if payload.getD (4 * k + 2) 0 = 0 then none
      else some ⟨payload.getD (4 * k) 0, payload.getD (4 * k + 2) 0, payload.getD (4 * k + 3) 0⟩

/-- Formalises R193. From an empty buffer, op.RX_BYTE(b) with b other than 0xFC answers the same
state, and op.RX_BYTE(0xFC) the next state that differs only in rx_buf = [0xFC]. -/
def Obligations.NoiseIsDiscardedAndSyncIsHeld : Prop :=
  ∀ s : State, s.rxBuf = [] →
    (∀ b : Byte, b ≠ 0xFC → exec (.opRxByte b) s = .next s) ∧
    exec (.opRxByte 0xFC) s = .next { s with rxBuf := [0xFC] }

/-- Derived from R192. From every state whose rx_buf satisfies INV_RX, op.RX_BYTE(b) and
op.RX_CHUNK([b]) answer the same next state, with no outcome or with one and an empty buffer; and
op.RX_CHUNK(c) answers the next state of running op.RX_BYTE on the bytes of c in order. That the
outcome is also held by the frame-out register is the model's reading (log 29). -/
def Obligations.ReceivingByteByByte : Prop :=
  ∀ s : State, rxInv s.rxBuf = true →
    (∀ b : Byte, ∃ u : State, exec (.opRxByte b) s = .next u ∧ exec (.opRxChunk [b]) s = .next u ∧
      (u = { s with rxBuf := u.rxBuf } ∨
        ∃ o, u = { s with rxBuf := [], frm := some o, out := s.out ++ [.frame o] })) ∧
    ∀ chunk : Bytes, ∃ u : State,
      exec (.opRxChunk chunk) s = .next u ∧ execAll (chunk.map .opRxByte) s = .next u

/-- Formalises R198. From every state, whatever its buffer holds, op.RX_CHUNK(a ++ b) answers the same
next state as op.RX_CHUNK(a) followed by op.RX_CHUNK(b): the same buffer, the same outcomes in the
same order. -/
def Obligations.ChunkingDoesNotMatter : Prop :=
  ∀ (a b : Bytes) (s : State), ∃ u : State,
    exec (.opRxChunk (a ++ b)) s = .next u ∧ execAll [.opRxChunk a, .opRxChunk b] s = .next u

/-- Derived from R330. From every state op.RX_DELIVER(chunk) answers a next state with crc_acc,
stuck_fired, the parameters and the inbox kept; from a buffer satisfying INV_RX its buffer is the
one op.RX_CHUNK leaves; and RX_DELIVER(a ++ b) is RX_DELIVER(a) then RX_DELIVER(b). -/
def Obligations.DeliverySplitsAnywhere : Prop :=
  (∀ (chunk : Bytes) (s : State), ∃ u : State, exec (.opRxDeliver chunk) s = .next u ∧
      u.crcAcc = s.crcAcc ∧ u.stuckFired = s.stuckFired ∧ u.cfg = s.cfg ∧ u.inbox = s.inbox ∧
      (rxInv s.rxBuf = true →
        ∃ v : State, exec (.opRxChunk chunk) s = .next v ∧ v.rxBuf = u.rxBuf)) ∧
  ∀ (a b : Bytes) (s : State),
    execAll [.opRxDeliver a, .opRxDeliver b] s = exec (.opRxDeliver (a ++ b)) s

/-- Derived from R330, R331, R195, R196. With nothing buffered, op.RX_DELIVER of exactly one delimited
frame answers what the row it decodes to answers; so a step whose first stimulus is a transport
notification answers what op.RX_DELIVER of its bytes answers, whichever row the decoder chose. -/
def Obligations.DeliveringAFrameRunsItsRow : Prop :=
  (∀ (frame : Bytes) (s : State), s.rxBuf = [] → isOneFrame frame = true →
      exec (.opRxDeliver frame) s = exec (frameInstr s.cfg frame) s) ∧
  ∀ (chunk : Bytes) (rest : List Stimulus) (s : State), s.inbox = .rx chunk :: rest →
    step s = exec (.opRxDeliver chunk) { s with inbox := rest }

/-- Derived from R199, R193. With nothing buffered, op.RX_CHUNK of bytes none of which is 0xFC
followed by any bytes answers the same next state as op.RX_CHUNK of those bytes alone. -/
def Obligations.NoiseBeforeAFrameIsDiscarded : Prop :=
  ∀ (noise bytes : Bytes) (s : State), s.rxBuf = [] → (0xFC : Byte) ∉ noise →
    ∃ u : State, exec (.opRxChunk (noise ++ bytes)) s = .next u ∧ exec (.opRxChunk bytes) s = .next u

/-- Derived from R194, R195, R196, R371. With nothing buffered, RX_CHUNK of a frame whose length byte
is below 5 gives the one outcome Malformed(TooShort); of a frame of any opcode, payload (up to 250
bytes) and trailer it gives Malformed(CrcMismatch) when the trailer is not the CRC, else
UnknownResponse or the decoded response as RSP_ROM has the opcode or not; the next state differs
only in the frame-out register and that output. That RX_CHUNK drives that register (log 29), for a
malformed frame too (log 4), is the model's reading. -/
def Obligations.OneFrameIsParsedByLengthCrcOpcode : Prop :=
  ∀ s : State, s.rxBuf = [] →
    (∀ (len : Byte) (rest : Bytes), len.toNat < 5 → rest.length + 2 = max len.toNat 2 →
      exec (.opRxChunk (0xFC :: len :: rest)) s = .next { s with
        frm := some (.malformed .tooShort), out := s.out ++ [.frame (.malformed .tooShort)] }) ∧
    ∀ (opcode : Byte) (payload : Bytes) (trailer : Word), payload.length ≤ 250 →
      let head : Bytes := 0xFC :: BitVec.ofNat 8 (payload.length + 5) :: opcode :: payload
      let o : FrameOutcome :=
        if crc16 s.cfg.crc head ≠ trailer then .malformed .crcMismatch
        else match rspLookup s.cfg opcode with
          | none => .unknownResponse opcode payload
          | some name => decodeResponse s.cfg s.denomTab name opcode payload
      exec (.opRxChunk (head ++ [lo8 trailer, hi8 trailer])) s =
        .next { s with frm := some o, out := s.out ++ [.frame o] }

/-- Derived from R197, R24, R192. If the registers stand for a buffer that satisfies INV_RX, then
after any byte they stand for the buffer RX_BYTE leaves and the outcomes are the same. -/
def Obligations.SerialReceiverRefinesTheBuffer : Prop :=
  ∀ (s : State) (r : RxRegs) (b : Byte), rxInv s.rxBuf = true → r.holds s.cfg.crc s.rxBuf →
    ∃ u : State, exec (.opRxByte b) s = .next u ∧
      (serialByte s.cfg s.denomTab r b).2.holds s.cfg.crc u.rxBuf ∧
      u.out = s.out ++ (serialByte s.cfg s.denomTab r b).1.toList.map .frame

/-- Derived from R137, R195. With a polynomial that has a constant term and nothing buffered, RX_CHUNK
of a valid frame with any one payload byte replaced by another value gives exactly the outcome
Malformed(CrcMismatch). That RX_CHUNK drives the frame-out register (log 29), for a malformed
frame too (log 4), is the model's reading. -/
def Obligations.MutatedPayloadByteIsACrcMismatch : Prop :=
  ∀ (s : State) (opcode x : Byte) (payload : Bytes) (i : Nat), s.rxBuf = [] →
    s.cfg.crc.poly.getLsbD 0 = true → payload.length ≤ 250 → i < payload.length →
    payload[i]? ≠ some x →
    exec (.opRxChunk ((frameOf s.cfg opcode payload).set (3 + i) x)) s = .next { s with
      frm := some (.malformed .crcMismatch), out := s.out ++ [.frame (.malformed .crcMismatch)] }

/-- Formalises R400. From every state op.RESET answers a next state with crc_acc = CRC_INIT, rx_buf
empty, fsm_state = Start, the three flags 0, no denomination table, no version, the same
parameters and no new output. -/
def Obligations.ResetRestoresEveryElement : Prop :=
  ∀ s : State, ∃ t : State, exec .opReset s = .next t ∧ t.crcAcc = s.cfg.crc.init ∧ t.rxBuf = [] ∧
    t.fsmState = .start ∧ t.disableFlag = false ∧ t.stuckArmed = false ∧ t.stuckFired = false ∧
    t.denomTab = none ∧ t.swVersion = none ∧ t.cfg = s.cfg ∧ t.out = s.out

/-- Formalises R402. From every state op.FSM_NEW answers the next state with fsm_state = Start and the
three flags 0, every other field (outputs included) as before. -/
def Obligations.FsmNewRebuildsTheMachine : Prop :=
  ∀ s : State, exec .opFsmNew s = .next { s with
    fsmState := .start, disableFlag := false, stuckArmed := false, stuckFired := false }

/-- Formalises R403. From every state op.SESSION_REFRESH answers the next state with fsm_state =
Start, the three flags 0 and no denomination table, every other field (rx_buf and sw_version among
them) as before. -/
def Obligations.SessionRefreshClearsTheTable : Prop :=
  ∀ s : State, exec .opSessionRefresh s = .next { s with
    fsmState := .start, disableFlag := false, stuckArmed := false, stuckFired := false
    denomTab := none }

/-- Derived from R9, R10, R372. When the first stimulus in the inbox decodes to i, step answers what
exec of i answers on the state without that stimulus; with an empty inbox step answers the same
state; when it decodes to nothing step refuses by the decoder's name for it (the inbox and the two
refusals are the model's choice, log 2 and 24). -/
def Obligations.StepRunsTheDecodedInstruction : Prop :=
  ∀ s : State,
    (s.inbox = [] → step s = .next s) ∧
    ∀ (st : Stimulus) (rest : List Stimulus), s.inbox = st :: rest →
      (∀ i, decode s.cfg s.rxBuf st = .ok i → step s = exec i { s with inbox := rest }) ∧
      (∀ r, decode s.cfg s.rxBuf st = .error r → step s = .refused (refusalOf r))

/-- Derived from R90, R97, R101, R194. Each of the 34 words that spec/opcode_table.json gives (the
nine commands, the 24 responses with the free length byte 0, rx.tooShort) decodes to its row under
the parameters of State.reset; FC L 12 with any length byte L from 5 is rsp.accepting with L-5
payload bytes, and FC L with L below 5 is rx.tooShort; and whatever a word decodes to under a
state's parameters is what the next step after withFetchWord executes. The opcodes are the
PRESUMED defaults (log 12, 13); how a word is completed to a frame is the model's choice (log 23). -/
def Obligations.TableWordsDecodeAndRun : Prop :=
  (∀ r ∈ ([(24, 0x1105FC, .cmdStatus), (24, 0x8805FC, .cmdVersion), (24, 0x8A05FC, .cmdDenominations),
     (24, 0x5005FC, .cmdAck), (24, 0x4005FC, .cmdReset), (24, 0x4105FC, .cmdStack),
     (24, 0x4305FC, .cmdReject), (32, 0x01C306FC, .cmdInhibit), (32, 0x00C306FC, .cmdUnInhibit),
     (24, 0x1100FC, .rspEnable 0x11 []), (24, 0x1200FC, .rspAccepting 0x12 []),
     (24, 0x1300FC, .rspEscrow 0x13 []), (24, 0x1400FC, .rspStacking 0x14 []),
     (24, 0x1500FC, .rspVendValid 0x15 []), (24, 0x1600FC, .rspStacked 0x16 []),
     (24, 0x1700FC, .rspRejecting 0x17 []), (24, 0x1800FC, .rspReturning 0x18 []),
     (24, 0x1A00FC, .rspDisable 0x1A []), (24, 0x1B00FC, .rspInitialize 0x1B []),
     (24, 0x4000FC, .rspPowerUp 0x40 []), (24, 0x4300FC, .rspStackerFull 0x43 []),
     (24, 0x4400FC, .rspStackerOpen 0x44 []), (24, 0x4500FC, .rspAcceptorJam 0x45 []),
     (24, 0x4600FC, .rspStackerJam 0x46 []), (24, 0x4700FC, .rspPaused 0x47 []),
     (24, 0x4800FC, .rspCheated 0x48 []), (24, 0x4900FC, .rspFailure 0x49 []),
     (24, 0x4A00FC, .rspComError 0x4A []), (24, 0x4B00FC, .rspInvalidCommand 0x4B []),
     (24, 0x5000FC, .rspAck 0x50 []), (24, 0x8800FC, .rspVersion 0x88 []),
     (24, 0x8A00FC, .rspDenominations 0x8A []), (24, 0xC300FC, .rspInhibit 0xC3 []),
     (16, 0x00FC, .rxTooShort 0 [])] :
      List (Nat × Nat × Instr)), decodeTableWord r.1 r.2.1 = some r.2.2) ∧
  (∀ len : Byte, 5 ≤ len.toNat →
    decodeTableWord 24 (0x1200FC + 256 * len.toNat) =
      some (.rspAccepting 0x12 (List.replicate (len.toNat - 5) 0))) ∧
  (∀ len : Byte, len.toNat < 5 →
    decodeTableWord 16 (0xFC + 256 * len.toNat) =
      some (.rxTooShort len (List.replicate (len.toNat - 2) 0))) ∧
  ∀ (s : State) (nbits w : Nat) (i : Instr),
    decode s.cfg [] (tableStimulus s.cfg nbits w) = .ok i →
    ∃ buf : Bytes, step (s.withFetchWord nbits w) = exec i { s with rxBuf := buf } ∧
      (buf = [] ∨ buf = s.rxBuf)

/-- Derived from R36, R404, R263. State.reset satisfies the invariant of Safety.lean, its parameters
are well-formed and have the memberships of R263 (PRESUMED and DESIGN CHOICE defaults, log 11 to
16), and op.RESET from it answers itself. -/
def Obligations.ResetStateSatisfiesTheInvariant : Prop :=
  State.reset.Inv ∧ State.reset.cfg.wf = true ∧ exec .opReset State.reset = .next State.reset

/-- Derived from R23, R27, R28, R30, R31, R233, R290, R291, R336. For every state in which rx_buf
satisfies INV_RX, the denomination table has strictly rising codes and no zero significand, a
cached version is at most 250 bytes, disable_flag is 0 in Enable and Disable, and the timer is
armed only in Returning, Stacking, Stacked, Accepting or Rejecting under by_state: every next
state of step is such a state. The table as a list with rising codes is the model's form of R30's
map (log 31). -/
def Obligations.EveryStepKeepsTheInvariant : Prop :=
  ∀ s s' : State, s.Inv → step s = .next s' → s'.Inv

/-- Derived from R10, R32, R68, R368, R404. Every next state of step has the same parameters (the
read-only tables among them) and outputs that begin with the old ones; and no step faults. That
outputs are a trace never taken back is the model's choice (log 3), that nothing faults its
reading of R10 and R368 (log 32). -/
def Obligations.StepsOnlyAppendOutputsAndKeepParameters : Prop :=
  ∀ s : State, (∀ s', step s = .next s' → s'.cfg = s.cfg ∧ s.out <+: s'.out) ∧
    ∀ f : Fault, step s ≠ .fault f

/-- Derived from R21, R23, R26, R27, R29, R60. For every instruction and state, if exec answers next
t: crc_acc changes only by CRC_CLEAR, CRC_BYTE, RESET; stuck_fired is set only by STUCK_FIRE and
cleared only by FSM_NEW, SESSION_REFRESH, RESET; rx_buf changes only by RX_CHUNK, RX_BYTE,
RX_DELIVER, RESET; disable_flag is set only by HOST_DISABLE; fsm_state changes only by FSM_EVENT,
HOST_EVENT, RX_DELIVER, the received-frame rows other than rsp.ack, rsp.inhibit and rsp.unknown,
FSM_NEW, SESSION_REFRESH, RESET; the frame-out register (the model's, log 4 and 29) changes only
by the received-frame rows, RX_CHUNK, RX_BYTE, RX_DELIVER, RESET. -/
def Obligations.OnlyTheNamedOperationsWriteEachRegister : Prop :=
  ∀ (i : Instr) (s t : State), exec i s = .next t →
    (t.crcAcc ≠ s.crcAcc → i = .opCrcClear ∨ (∃ b, i = .opCrcByte b) ∨ i = .opReset) ∧
    (s.stuckFired = false → t.stuckFired = true → i = .opStuckFire) ∧
    (s.stuckFired = true → t.stuckFired = false →
      i = .opFsmNew ∨ i = .opSessionRefresh ∨ i = .opReset) ∧
    (t.rxBuf ≠ s.rxBuf → (∃ c, i = .opRxChunk c) ∨ (∃ b, i = .opRxByte b) ∨
      (∃ c, i = .opRxDeliver c) ∨ i = .opReset) ∧
    (s.disableFlag = false → t.disableFlag = true → i = .opHostDisable) ∧
    (t.fsmState ≠ s.fsmState →
      (isFrameRow i = true ∧ ∀ opcode payload, i ≠ .rspAck opcode payload ∧
        i ≠ .rspInhibit opcode payload ∧ i ≠ .rspUnknown opcode payload) ∨
      (∃ ev data, i = .opFsmEvent ev data) ∨ (∃ code, i = .opHostEvent code) ∨
      (∃ c, i = .opRxDeliver c) ∨ i = .opFsmNew ∨ i = .opSessionRefresh ∨ i = .opReset) ∧
    (t.frm ≠ s.frm → isFrameRow i = true ∨ (∃ c, i = .opRxChunk c) ∨ (∃ b, i = .opRxByte b) ∨
      (∃ c, i = .opRxDeliver c) ∨ i = .opReset)

/-- Derived from R30, R31, R336, R337. For every instruction and state, if exec answers next t: a
present denomination table is kept by every instruction but RESET and SESSION_REFRESH, a present
version by every instruction but RESET. -/
def Obligations.CachesAreWrittenOnce : Prop :=
  ∀ (i : Instr) (s t : State), exec i s = .next t →
    (∀ m, s.denomTab = some m → i ≠ .opReset → i ≠ .opSessionRefresh → t.denomTab = some m) ∧
    (∀ v, s.swVersion = some v → i ≠ .opReset → t.swVersion = some v)

/-- Derived from R10, R90, R94, R95, R97, R195, R196, R240. For all parameters and every instruction
well-formed under them, if the encoder writes a stimulus for it (a command's image, a received
frame's bytes, an operation's strobe), decoding that stimulus with nothing buffered gives the
instruction with every operand; and the encoder writes one for every well-formed instruction. That
a notification of one frame is its row (log 22), that an operation's stimulus is its strobe (log
24), and that an image is matched under the table's mask with the first id winning (log 25) are
the model's choice. -/
def Obligations.EncodedInstructionsDecodeBack : Prop :=
  ∀ (p : Params) (i : Instr), WellFormed p i = true →
    ∃ st : Stimulus, encode p i = some st ∧ decode p [] st = .ok i

/-- Derived from R11, R60, R106, R110, R111, R112, R113, R360. After each of the 33 decoded response
rows with a payload of up to 250 bytes the port shows status 0, the opcode, the code of R110 of
the table's name (not of an override, the model's reading, log 38), the number of payload bytes
and, at every index of a payload byte, that byte; after rsp.unknown the same with status 2 and no
claim about the name; after the malformed rows status 1 and a length of at most 250. After RESET
every signal reads 0, the model's choice (log 4). rx_ready is 1 in every state. The state,
response-name, domain-event, outcome and ev_result codes are those of R106, R110, R111, R113 and
R11, written out. Nothing is said of the free values (log 36). -/
def Obligations.FrameOutPortShowsTheLastFrame : Prop :=
  (∀ (opcode : Byte) (payload : Bytes), payload.length ≤ 250 → ∀ s : State,
    (∀ r ∈ ([(.rspEnable opcode payload, 0), (.rspAccepting opcode payload, 1),
       (.rspEscrow opcode payload, 2), (.rspStacking opcode payload, 3),
       (.rspVendValid opcode payload, 4), (.rspStacked opcode payload, 5),
       (.rspRejecting opcode payload, 6), (.rspReturning opcode payload, 7),
       (.rspDisable opcode payload, 8), (.rspInitialize opcode payload, 9),
       (.rspPowerUp opcode payload, 10), (.rspStackerFull opcode payload, 11),
       (.rspStackerOpen opcode payload, 12), (.rspAcceptorJam opcode payload, 13),
       (.rspStackerJam opcode payload, 14), (.rspPaused opcode payload, 15),
       (.rspCheated opcode payload, 16), (.rspFailure opcode payload, 17),
       (.rspComError opcode payload, 18), (.rspInvalidCommand opcode payload, 19),
       (.rspAck opcode payload, 20), (.rspVersion opcode payload, 21),
       (.rspDenominations opcode payload, 22), (.rspInhibit opcode payload, 23),
       (.rspPaying opcode payload, 28), (.rspPayStay opcode payload, 29),
       (.rspPayValid opcode payload, 30), (.rspRecyclerUnitFailure opcode payload, 31),
       (.rspPathCurrencypath opcode payload, 24), (.rspPathCount opcode payload, 24),
       (.rspPathSetCount opcode payload, 24), (.rspPathSetCurrentCount opcode payload, 24),
       (.rspPathUnrecognised opcode payload, 24)] :
      List (Instr × BitVec 5)),
      ∃ u : State, exec r.1 s = .next u ∧ u.frmStatus = 0 ∧ u.frmOpcode = opcode ∧
        u.frmName = r.2 ∧ u.frmLen.toNat = payload.length ∧
        ∀ idx b : Byte, payload[idx.toNat]? = some b → u.frmRead idx = b) ∧
    ∃ u : State, exec (.rspUnknown opcode payload) s = .next u ∧ u.frmStatus = 2 ∧
      u.frmOpcode = opcode ∧ u.frmLen.toNat = payload.length ∧
      ∀ idx b : Byte, payload[idx.toNat]? = some b → u.frmRead idx = b) ∧
  (∀ (len opcode : Byte) (rest payload : Bytes) (trailer : Word) (s : State),
    ∀ i ∈ ([.rxTooShort len rest, .rxCrcMismatch opcode payload trailer] : List Instr),
      ∃ u : State, exec i s = .next u ∧ u.frmStatus = 1 ∧ u.frmLen.toNat ≤ 250) ∧
  (∀ s : State, ∃ u : State, exec .opReset s = .next u ∧ u.frmStatus = 0 ∧ u.frmOpcode = 0 ∧
    u.frmName = 0 ∧ u.frmLen = 0 ∧ ∀ idx : Byte, u.frmRead idx = 0) ∧
  (∀ s : State, s.rxReady = 1) ∧
  (∀ r ∈ ([(.start, 0), (.powerUp, 1), (.denominations, 2), (.version, 3), (.connected, 4),
     (.refresh, 5), (.initialise, 6), (.enable, 7), (.disable, 8), (.accepting, 9),
     (.escrow, 10), (.stacking, 11), (.vendValid, 12), (.stacked, 13), (.rejecting, 14),
     (.returning, 15), (.stackerOpen, 16), (.stackerFull, 17), (.acceptorJam, 18),
     (.stackerJam, 19), (.cheated, 20), (.failure, 21), (.comError, 22), (.badFrame, 23),
     (.currencyPath, 24), (.setCount, 25), (.setCurrentCount, 26), (.count, 27), (.paying, 28),
     (.payStay, 29), (.payValid, 30), (.invalidCommand, 31), (.recyclerUnitFailure, 32),
     (.paused, 33)] :
      List (StateName × BitVec 6)),
    ∀ s : State, s.fsmState = r.1 → s.fsmPort = r.2) ∧
  (∀ r ∈ ([(.enable, 0), (.accepting, 1), (.escrow, 2), (.stacking, 3), (.vendValid, 4),
     (.stacked, 5), (.rejecting, 6), (.returning, 7), (.disable, 8), (.initialise, 9),
     (.powerUp, 10), (.stackerFull, 11), (.stackerOpen, 12), (.acceptorJam, 13),
     (.stackerJam, 14), (.paused, 15), (.cheated, 16), (.failure, 17), (.comError, 18),
     (.invalidCommand, 19), (.ack, 20), (.version, 21), (.denominations, 22), (.inhibit, 23),
     (.currencypath, 24), (.setCount, 25), (.setCurrentCount, 26), (.count, 27), (.paying, 28),
     (.payStay, 29), (.payValid, 30), (.recyclerUnitFailure, 31)] :
      List (RspName × BitVec 5)), r.1.code = r.2) ∧
  (∀ (entries : Option (List DenomEntry)) (text : Option Bytes) (reason : Option BillReason)
      (code : Option Byte) (den : Option (Byte × Byte)) (d : Option PathData),
    ∀ r ∈ ([(.powerUp, 0), (.ready, 1), (.denominations entries, 2), (.version text, 3),
     (.onpaystay, 4), (.onpayvalid, 5), (.standby, 6), (.billAccepted, 7),
     (.billRejected reason code, 8), (.billRead den code, 9), (.billStacked code, 10),
     (.pathCurrency d, 11), (.pathSetCount d, 12), (.pathSetCurrentCount d, 13),
     (.pathCount d, 14), (.billValid, 15), (.stackerOpen, 16), (.stackerFull, 17),
     (.acceptorJam, 18), (.stackerJam, 19), (.cheated, 20), (.stuck, 21)] :
      List (DomainEvent × BitVec 5)), r.1.code = r.2) ∧
  (∀ (id : BitVec 4) (opcode : Byte) (payload : Bytes) (ev : BitVec 6) (st : StateName),
    ∀ r ∈ ([(.result .ok, 0), (.txErr id, 1), (.frame (.malformed .crcMismatch), 2),
      (.frame (.malformed .tooShort), 3), (.frame (.unknownResponse opcode payload), 4),
      (.diag (.invalidTransition ev st), 5), (.emit .stuck, 6)] : List (Output × BitVec 3)),
    r.1.outcomeCode? = some r.2) ∧
  EvResult.ok.bit = 0 ∧ EvResult.invalidTransition.bit = 1
end

