-- ==== Sys2Proof/Laws/Crc.lean ====
section
/-! SUPPORT. Small facts about the CRC's byte order and the frame format (00_scope.md R6, 30_encoding.md
R90 to R94). -/

namespace Sys2Proof

/-- Splitting a word into its wire bytes and assembling it again (R61). -/
theorem le16_lo8_hi8 (w : Word) : le16 (lo8 w) (hi8 w) = w := by
  apply BitVec.eq_of_getLsbD_eq
  intro i hi
  simp only [le16, lo8, hi8, BitVec.getLsbD_or, BitVec.getLsbD_setWidth, BitVec.getLsbD_shiftLeft,
    BitVec.getLsbD_ushiftRight]
  by_cases h : i < 8
  · simp [h, show i < 16 by omega]
  · have e : 8 + (i - 8) = i := by omega
    simp [h, hi, show i - 8 < 8 by omega, e, show i - 8 < 16 by omega]

@[simp] theorem length_trailerBytes (w : Word) : (trailerBytes w).length = 2 := rfl

@[simp] theorem length_frameHead (opcode : Byte) (payload : Bytes) :
    (frameHead opcode payload).length = payload.length + 3 := rfl

@[simp] theorem length_frameWith (opcode : Byte) (payload : Bytes) (w : Word) :
    (frameWith opcode payload w).length = payload.length + 5 := by
  simp [frameWith]

/-- The body of a frame is everything before its trailer (R90). -/
@[simp] theorem frameBody_frameWith (opcode : Byte) (payload : Bytes) (w : Word) :
    frameBody (frameWith opcode payload w) = frameHead opcode payload := by
  have h : (frameWith opcode payload w).length - 2 = (frameHead opcode payload).length := by simp
  rw [frameBody, h]
  exact List.take_left

/-- The trailer of a frame (R94). -/
@[simp] theorem frameTrailer_frameWith (opcode : Byte) (payload : Bytes) (w : Word) :
    frameTrailer (frameWith opcode payload w) = w := by
  have h0 : (frameWith opcode payload w).getD (payload.length + 3) 0 = lo8 w := by
    simp [frameWith, frameHead, trailerBytes]
  have h1 : (frameWith opcode payload w).getD (payload.length + 4) 0 = hi8 w := by
    simp [frameWith, frameHead, trailerBytes]
  simp only [frameTrailer, length_frameWith, Nat.reduceSubDiff, h0, h1, le16_lo8_hi8]

/-- The payload of a frame (R93). -/
@[simp] theorem framePayload_frameWith (opcode : Byte) (payload : Bytes) (w : Word) :
    framePayload (frameWith opcode payload w) = payload := by
  simp [framePayload, frameWith, frameHead]

/-- The opcode of a frame (R90). -/
@[simp] theorem opcode_frameWith (opcode : Byte) (payload : Bytes) (w : Word) :
    (frameWith opcode payload w).getD 2 0 = opcode := by
  simp [frameWith, frameHead]

/-- A sealed image has the length of the bytes it was made from. -/
theorem length_sealTrailer (c : CrcParams) (bytes : Bytes) (h : 2 ≤ bytes.length) :
    (sealTrailer c bytes).length = bytes.length := by
  simp [sealTrailer, frameBody]
  omega

/-- One shift is one-to-one when the polynomial has a constant term (R137). -/
theorem crcShift_injective {poly : Word} (h : poly.getLsbD 0 = true) :
    Function.Injective (crcShift poly) := by
  intro a b hab
  have key : ∀ c : Word, ((crcShift poly c).getLsbD 0 = c.msb) := by
    intro c
    unfold crcShift
    split <;> simp_all
  have hm : a.msb = b.msb := by rw [← key a, ← key b, hab]
  unfold crcShift at hab
  rw [← hm] at hab
  have hs : a <<< 1 = b <<< 1 := by
    split at hab
    · simpa using hab
    · exact hab
  apply BitVec.eq_of_getLsbD_eq
  intro i hi
  by_cases h15 : i = 15
  · subst h15
    simpa [BitVec.msb_eq_getLsbD_last] using hm
  · have := congrArg (fun v : Word => v.getLsbD (i + 1)) hs
    simp only [BitVec.getLsbD_shiftLeft, show i + 1 < 16 by omega] at this
    simpa using this

end Sys2Proof
end

