-- ==== Sys2Proof/Laws/Decode.lean ====
section
/-! SUPPORT. What the decoder reads from a frame (30_encoding.md R90, 42_rx_ingest.md R194 to R196), and what
frame a word of the opcode table is completed to. -/

namespace Sys2Proof

/-- A frame with its CRC is classified by its opcode alone (R196). -/
theorem classify_frameOf (p : Params) (opcode : Byte) (payload : Bytes) :
    classify p (frameOf p opcode payload) =
      match rspLookup p opcode with
      | none => .unknown opcode payload
      | some name => .response name opcode payload := by
  have h : ¬(frameOf p opcode payload).length < Config.minFrame := by simp [frameOf]
  unfold classify
  rw [if_neg h]
  cases hr : rspLookup p opcode <;>
    simp only [frameOf, frameBody_frameWith, frameTrailer_frameWith, opcode_frameWith,
      framePayload_frameWith, ne_eq, not_true_eq_false, if_false, hr]

/-- A frame is exactly one delimited frame, when its length fits the length byte (R90). -/
theorem isOneFrame_frameWith (opcode : Byte) (payload : Bytes) (w : Word)
    (h : payload.length ≤ Config.maxPayload) : isOneFrame (frameWith opcode payload w) = true := by
  have h' : payload.length + 5 < 256 := by simp only [Config.maxPayload] at h; omega
  simp [frameWith, frameHead, trailerBytes, isOneFrame, frameSize, Nat.mod_eq_of_lt h']

/-- Sealing the bytes of a frame writes its CRC. -/
theorem sealTrailer_frame (p : Params) (opcode a b : Byte) (payload : Bytes) :
    sealTrailer p.crc (frameHead opcode payload ++ [a, b]) = frameOf p opcode payload := by
  have h : frameBody (frameHead opcode payload ++ [a, b]) = frameHead opcode payload := by
    simp [frameBody, frameHead]
  rw [sealTrailer, h, frameOf, frameWith]

/-- A word of the table that gives sync byte, length byte and opcode is completed with a payload of zeros and
the CRC (the log, row 23). -/
theorem completeFrame_three (p : Params) (len opcode : Byte) (h : 5 ≤ len.toNat) :
    completeFrame p [Config.sync, len, opcode] =
      frameOf p opcode (List.replicate (len.toNat - 5) 0) := by
  obtain ⟨k, hk⟩ : ∃ k, len.toNat = k + 5 := ⟨len.toNat - 5, by omega⟩
  have hz : (len == 0 && decide (3 ≤ ([Config.sync, len, opcode] : Bytes).length)) = false := by
    have h0 : len ≠ 0 := by
      intro h0
      simp [h0] at h
    simpa using h0
  have hs : frameSize len = k + 5 := by rw [frameSize]; omega
  have hl : (BitVec.ofNat 8 (k + 5) : Byte) = len := by rw [← hk]; simp
  have hp : padTo (k + 5) [Config.sync, len, opcode] =
      frameHead opcode (List.replicate k 0) ++ [0, 0] := by
    rw [frameHead, List.length_replicate, hl]
    simp only [padTo, List.cons_append, List.nil_append, List.take_succ_cons]
    rw [show ([0, 0] : Bytes) = List.replicate 2 0 from rfl, List.replicate_append_replicate,
      List.take_replicate]
    simp
  have hlen : (decide (len.toNat < Config.minFrame) ||
      decide (len.toNat ≤ ([Config.sync, len, opcode] : Bytes).length)) = false := by
    simp only [Config.minFrame, List.length_cons, List.length_nil, Bool.or_eq_false_iff,
      decide_eq_false_iff_not]
    omega
  have hb : ([Config.sync, len, opcode] : Bytes).set 1 len = [Config.sync, len, opcode] := rfl
  simp only [completeFrame, List.getD_cons_succ, List.getD_cons_zero, hz, Bool.false_eq_true, if_false,
    hlen, hs, hb, hp, sealTrailer_frame]
  rw [hk, Nat.add_sub_cancel]

end Sys2Proof
end

