-- ==== Sys2Proof/Laws/State.lean ====
section
/-! SUPPORT. One lemma per field per write, true by unfolding, so that no later proof unfolds a record
update. -/

namespace Sys2Proof.Machine

/-! ### `setCrc` -/

section

variable (s : State) (v : Word)

@[simp] theorem State.setCrc_crcAcc : (s.setCrc v).crcAcc = v := rfl
@[simp] theorem State.setCrc_rxBuf : (s.setCrc v).rxBuf = s.rxBuf := rfl
@[simp] theorem State.setCrc_fsmState : (s.setCrc v).fsmState = s.fsmState := rfl
@[simp] theorem State.setCrc_disableFlag : (s.setCrc v).disableFlag = s.disableFlag := rfl
@[simp] theorem State.setCrc_stuckArmed : (s.setCrc v).stuckArmed = s.stuckArmed := rfl
@[simp] theorem State.setCrc_stuckFired : (s.setCrc v).stuckFired = s.stuckFired := rfl
@[simp] theorem State.setCrc_denomTab : (s.setCrc v).denomTab = s.denomTab := rfl
@[simp] theorem State.setCrc_swVersion : (s.setCrc v).swVersion = s.swVersion := rfl
@[simp] theorem State.setCrc_frm : (s.setCrc v).frm = s.frm := rfl
@[simp] theorem State.setCrc_cfg : (s.setCrc v).cfg = s.cfg := rfl
@[simp] theorem State.setCrc_inbox : (s.setCrc v).inbox = s.inbox := rfl
@[simp] theorem State.setCrc_out : (s.setCrc v).out = s.out := rfl
@[simp] theorem State.setCrc_freeCount : (s.setCrc v).freeCount = s.freeCount := rfl

end

/-! ### `setRxBuf` -/

section

variable (s : State) (v : Bytes)

@[simp] theorem State.setRxBuf_crcAcc : (s.setRxBuf v).crcAcc = s.crcAcc := rfl
@[simp] theorem State.setRxBuf_rxBuf : (s.setRxBuf v).rxBuf = v := rfl
@[simp] theorem State.setRxBuf_fsmState : (s.setRxBuf v).fsmState = s.fsmState := rfl
@[simp] theorem State.setRxBuf_disableFlag : (s.setRxBuf v).disableFlag = s.disableFlag := rfl
@[simp] theorem State.setRxBuf_stuckArmed : (s.setRxBuf v).stuckArmed = s.stuckArmed := rfl
@[simp] theorem State.setRxBuf_stuckFired : (s.setRxBuf v).stuckFired = s.stuckFired := rfl
@[simp] theorem State.setRxBuf_denomTab : (s.setRxBuf v).denomTab = s.denomTab := rfl
@[simp] theorem State.setRxBuf_swVersion : (s.setRxBuf v).swVersion = s.swVersion := rfl
@[simp] theorem State.setRxBuf_frm : (s.setRxBuf v).frm = s.frm := rfl
@[simp] theorem State.setRxBuf_cfg : (s.setRxBuf v).cfg = s.cfg := rfl
@[simp] theorem State.setRxBuf_inbox : (s.setRxBuf v).inbox = s.inbox := rfl
@[simp] theorem State.setRxBuf_out : (s.setRxBuf v).out = s.out := rfl
@[simp] theorem State.setRxBuf_freeCount : (s.setRxBuf v).freeCount = s.freeCount := rfl

end

/-! ### `setFsm` -/

section

variable (s : State) (v : StateName)

@[simp] theorem State.setFsm_crcAcc : (s.setFsm v).crcAcc = s.crcAcc := rfl
@[simp] theorem State.setFsm_rxBuf : (s.setFsm v).rxBuf = s.rxBuf := rfl
@[simp] theorem State.setFsm_fsmState : (s.setFsm v).fsmState = v := rfl
@[simp] theorem State.setFsm_disableFlag : (s.setFsm v).disableFlag = s.disableFlag := rfl
@[simp] theorem State.setFsm_stuckArmed : (s.setFsm v).stuckArmed = s.stuckArmed := rfl
@[simp] theorem State.setFsm_stuckFired : (s.setFsm v).stuckFired = s.stuckFired := rfl
@[simp] theorem State.setFsm_denomTab : (s.setFsm v).denomTab = s.denomTab := rfl
@[simp] theorem State.setFsm_swVersion : (s.setFsm v).swVersion = s.swVersion := rfl
@[simp] theorem State.setFsm_frm : (s.setFsm v).frm = s.frm := rfl
@[simp] theorem State.setFsm_cfg : (s.setFsm v).cfg = s.cfg := rfl
@[simp] theorem State.setFsm_inbox : (s.setFsm v).inbox = s.inbox := rfl
@[simp] theorem State.setFsm_out : (s.setFsm v).out = s.out := rfl
@[simp] theorem State.setFsm_freeCount : (s.setFsm v).freeCount = s.freeCount := rfl

end

/-! ### `setDisable` -/

section

variable (s : State) (v : Bool)

@[simp] theorem State.setDisable_crcAcc : (s.setDisable v).crcAcc = s.crcAcc := rfl
@[simp] theorem State.setDisable_rxBuf : (s.setDisable v).rxBuf = s.rxBuf := rfl
@[simp] theorem State.setDisable_fsmState : (s.setDisable v).fsmState = s.fsmState := rfl
@[simp] theorem State.setDisable_disableFlag : (s.setDisable v).disableFlag = v := rfl
@[simp] theorem State.setDisable_stuckArmed : (s.setDisable v).stuckArmed = s.stuckArmed := rfl
@[simp] theorem State.setDisable_stuckFired : (s.setDisable v).stuckFired = s.stuckFired := rfl
@[simp] theorem State.setDisable_denomTab : (s.setDisable v).denomTab = s.denomTab := rfl
@[simp] theorem State.setDisable_swVersion : (s.setDisable v).swVersion = s.swVersion := rfl
@[simp] theorem State.setDisable_frm : (s.setDisable v).frm = s.frm := rfl
@[simp] theorem State.setDisable_cfg : (s.setDisable v).cfg = s.cfg := rfl
@[simp] theorem State.setDisable_inbox : (s.setDisable v).inbox = s.inbox := rfl
@[simp] theorem State.setDisable_out : (s.setDisable v).out = s.out := rfl
@[simp] theorem State.setDisable_freeCount : (s.setDisable v).freeCount = s.freeCount := rfl

end

/-! ### `setArmed` -/

section

variable (s : State) (v : Bool)

@[simp] theorem State.setArmed_crcAcc : (s.setArmed v).crcAcc = s.crcAcc := rfl
@[simp] theorem State.setArmed_rxBuf : (s.setArmed v).rxBuf = s.rxBuf := rfl
@[simp] theorem State.setArmed_fsmState : (s.setArmed v).fsmState = s.fsmState := rfl
@[simp] theorem State.setArmed_disableFlag : (s.setArmed v).disableFlag = s.disableFlag := rfl
@[simp] theorem State.setArmed_stuckArmed : (s.setArmed v).stuckArmed = v := rfl
@[simp] theorem State.setArmed_stuckFired : (s.setArmed v).stuckFired = s.stuckFired := rfl
@[simp] theorem State.setArmed_denomTab : (s.setArmed v).denomTab = s.denomTab := rfl
@[simp] theorem State.setArmed_swVersion : (s.setArmed v).swVersion = s.swVersion := rfl
@[simp] theorem State.setArmed_frm : (s.setArmed v).frm = s.frm := rfl
@[simp] theorem State.setArmed_cfg : (s.setArmed v).cfg = s.cfg := rfl
@[simp] theorem State.setArmed_inbox : (s.setArmed v).inbox = s.inbox := rfl
@[simp] theorem State.setArmed_out : (s.setArmed v).out = s.out := rfl
@[simp] theorem State.setArmed_freeCount : (s.setArmed v).freeCount = s.freeCount := rfl

end

/-! ### `setFired` -/

section

variable (s : State) (v : Bool)

@[simp] theorem State.setFired_crcAcc : (s.setFired v).crcAcc = s.crcAcc := rfl
@[simp] theorem State.setFired_rxBuf : (s.setFired v).rxBuf = s.rxBuf := rfl
@[simp] theorem State.setFired_fsmState : (s.setFired v).fsmState = s.fsmState := rfl
@[simp] theorem State.setFired_disableFlag : (s.setFired v).disableFlag = s.disableFlag := rfl
@[simp] theorem State.setFired_stuckArmed : (s.setFired v).stuckArmed = s.stuckArmed := rfl
@[simp] theorem State.setFired_stuckFired : (s.setFired v).stuckFired = v := rfl
@[simp] theorem State.setFired_denomTab : (s.setFired v).denomTab = s.denomTab := rfl
@[simp] theorem State.setFired_swVersion : (s.setFired v).swVersion = s.swVersion := rfl
@[simp] theorem State.setFired_frm : (s.setFired v).frm = s.frm := rfl
@[simp] theorem State.setFired_cfg : (s.setFired v).cfg = s.cfg := rfl
@[simp] theorem State.setFired_inbox : (s.setFired v).inbox = s.inbox := rfl
@[simp] theorem State.setFired_out : (s.setFired v).out = s.out := rfl
@[simp] theorem State.setFired_freeCount : (s.setFired v).freeCount = s.freeCount := rfl

end

/-! ### `setDenomTab` -/

section

variable (s : State) (v : Option DenomTab)

@[simp] theorem State.setDenomTab_crcAcc : (s.setDenomTab v).crcAcc = s.crcAcc := rfl
@[simp] theorem State.setDenomTab_rxBuf : (s.setDenomTab v).rxBuf = s.rxBuf := rfl
@[simp] theorem State.setDenomTab_fsmState : (s.setDenomTab v).fsmState = s.fsmState := rfl
@[simp] theorem State.setDenomTab_disableFlag : (s.setDenomTab v).disableFlag = s.disableFlag := rfl
@[simp] theorem State.setDenomTab_stuckArmed : (s.setDenomTab v).stuckArmed = s.stuckArmed := rfl
@[simp] theorem State.setDenomTab_stuckFired : (s.setDenomTab v).stuckFired = s.stuckFired := rfl
@[simp] theorem State.setDenomTab_denomTab : (s.setDenomTab v).denomTab = v := rfl
@[simp] theorem State.setDenomTab_swVersion : (s.setDenomTab v).swVersion = s.swVersion := rfl
@[simp] theorem State.setDenomTab_frm : (s.setDenomTab v).frm = s.frm := rfl
@[simp] theorem State.setDenomTab_cfg : (s.setDenomTab v).cfg = s.cfg := rfl
@[simp] theorem State.setDenomTab_inbox : (s.setDenomTab v).inbox = s.inbox := rfl
@[simp] theorem State.setDenomTab_out : (s.setDenomTab v).out = s.out := rfl
@[simp] theorem State.setDenomTab_freeCount : (s.setDenomTab v).freeCount = s.freeCount := rfl

end

/-! ### `setVersion` -/

section

variable (s : State) (v : Option Bytes)

@[simp] theorem State.setVersion_crcAcc : (s.setVersion v).crcAcc = s.crcAcc := rfl
@[simp] theorem State.setVersion_rxBuf : (s.setVersion v).rxBuf = s.rxBuf := rfl
@[simp] theorem State.setVersion_fsmState : (s.setVersion v).fsmState = s.fsmState := rfl
@[simp] theorem State.setVersion_disableFlag : (s.setVersion v).disableFlag = s.disableFlag := rfl
@[simp] theorem State.setVersion_stuckArmed : (s.setVersion v).stuckArmed = s.stuckArmed := rfl
@[simp] theorem State.setVersion_stuckFired : (s.setVersion v).stuckFired = s.stuckFired := rfl
@[simp] theorem State.setVersion_denomTab : (s.setVersion v).denomTab = s.denomTab := rfl
@[simp] theorem State.setVersion_swVersion : (s.setVersion v).swVersion = v := rfl
@[simp] theorem State.setVersion_frm : (s.setVersion v).frm = s.frm := rfl
@[simp] theorem State.setVersion_cfg : (s.setVersion v).cfg = s.cfg := rfl
@[simp] theorem State.setVersion_inbox : (s.setVersion v).inbox = s.inbox := rfl
@[simp] theorem State.setVersion_out : (s.setVersion v).out = s.out := rfl
@[simp] theorem State.setVersion_freeCount : (s.setVersion v).freeCount = s.freeCount := rfl

end

/-! ### `setFrm` -/

section

variable (s : State) (v : Option FrameOutcome)

@[simp] theorem State.setFrm_crcAcc : (s.setFrm v).crcAcc = s.crcAcc := rfl
@[simp] theorem State.setFrm_rxBuf : (s.setFrm v).rxBuf = s.rxBuf := rfl
@[simp] theorem State.setFrm_fsmState : (s.setFrm v).fsmState = s.fsmState := rfl
@[simp] theorem State.setFrm_disableFlag : (s.setFrm v).disableFlag = s.disableFlag := rfl
@[simp] theorem State.setFrm_stuckArmed : (s.setFrm v).stuckArmed = s.stuckArmed := rfl
@[simp] theorem State.setFrm_stuckFired : (s.setFrm v).stuckFired = s.stuckFired := rfl
@[simp] theorem State.setFrm_denomTab : (s.setFrm v).denomTab = s.denomTab := rfl
@[simp] theorem State.setFrm_swVersion : (s.setFrm v).swVersion = s.swVersion := rfl
@[simp] theorem State.setFrm_frm : (s.setFrm v).frm = v := rfl
@[simp] theorem State.setFrm_cfg : (s.setFrm v).cfg = s.cfg := rfl
@[simp] theorem State.setFrm_inbox : (s.setFrm v).inbox = s.inbox := rfl
@[simp] theorem State.setFrm_out : (s.setFrm v).out = s.out := rfl
@[simp] theorem State.setFrm_freeCount : (s.setFrm v).freeCount = s.freeCount := rfl

end

/-! ### `setFree` -/

section

variable (s : State) (v : Nat)

@[simp] theorem State.setFree_crcAcc : (s.setFree v).crcAcc = s.crcAcc := rfl
@[simp] theorem State.setFree_rxBuf : (s.setFree v).rxBuf = s.rxBuf := rfl
@[simp] theorem State.setFree_fsmState : (s.setFree v).fsmState = s.fsmState := rfl
@[simp] theorem State.setFree_disableFlag : (s.setFree v).disableFlag = s.disableFlag := rfl
@[simp] theorem State.setFree_stuckArmed : (s.setFree v).stuckArmed = s.stuckArmed := rfl
@[simp] theorem State.setFree_stuckFired : (s.setFree v).stuckFired = s.stuckFired := rfl
@[simp] theorem State.setFree_denomTab : (s.setFree v).denomTab = s.denomTab := rfl
@[simp] theorem State.setFree_swVersion : (s.setFree v).swVersion = s.swVersion := rfl
@[simp] theorem State.setFree_frm : (s.setFree v).frm = s.frm := rfl
@[simp] theorem State.setFree_cfg : (s.setFree v).cfg = s.cfg := rfl
@[simp] theorem State.setFree_inbox : (s.setFree v).inbox = s.inbox := rfl
@[simp] theorem State.setFree_out : (s.setFree v).out = s.out := rfl
@[simp] theorem State.setFree_freeCount : (s.setFree v).freeCount = v := rfl

end

/-! ### `setInbox` -/

section

variable (s : State) (v : List Stimulus)

@[simp] theorem State.setInbox_crcAcc : (s.setInbox v).crcAcc = s.crcAcc := rfl
@[simp] theorem State.setInbox_rxBuf : (s.setInbox v).rxBuf = s.rxBuf := rfl
@[simp] theorem State.setInbox_fsmState : (s.setInbox v).fsmState = s.fsmState := rfl
@[simp] theorem State.setInbox_disableFlag : (s.setInbox v).disableFlag = s.disableFlag := rfl
@[simp] theorem State.setInbox_stuckArmed : (s.setInbox v).stuckArmed = s.stuckArmed := rfl
@[simp] theorem State.setInbox_stuckFired : (s.setInbox v).stuckFired = s.stuckFired := rfl
@[simp] theorem State.setInbox_denomTab : (s.setInbox v).denomTab = s.denomTab := rfl
@[simp] theorem State.setInbox_swVersion : (s.setInbox v).swVersion = s.swVersion := rfl
@[simp] theorem State.setInbox_frm : (s.setInbox v).frm = s.frm := rfl
@[simp] theorem State.setInbox_cfg : (s.setInbox v).cfg = s.cfg := rfl
@[simp] theorem State.setInbox_inbox : (s.setInbox v).inbox = v := rfl
@[simp] theorem State.setInbox_out : (s.setInbox v).out = s.out := rfl
@[simp] theorem State.setInbox_freeCount : (s.setInbox v).freeCount = s.freeCount := rfl

end

/-! ### `push` -/

section

variable (s : State) (v : List Output)

@[simp] theorem State.push_crcAcc : (s.push v).crcAcc = s.crcAcc := rfl
@[simp] theorem State.push_rxBuf : (s.push v).rxBuf = s.rxBuf := rfl
@[simp] theorem State.push_fsmState : (s.push v).fsmState = s.fsmState := rfl
@[simp] theorem State.push_disableFlag : (s.push v).disableFlag = s.disableFlag := rfl
@[simp] theorem State.push_stuckArmed : (s.push v).stuckArmed = s.stuckArmed := rfl
@[simp] theorem State.push_stuckFired : (s.push v).stuckFired = s.stuckFired := rfl
@[simp] theorem State.push_denomTab : (s.push v).denomTab = s.denomTab := rfl
@[simp] theorem State.push_swVersion : (s.push v).swVersion = s.swVersion := rfl
@[simp] theorem State.push_frm : (s.push v).frm = s.frm := rfl
@[simp] theorem State.push_cfg : (s.push v).cfg = s.cfg := rfl
@[simp] theorem State.push_inbox : (s.push v).inbox = s.inbox := rfl
@[simp] theorem State.push_out : (s.push v).out = s.out ++ v := rfl
@[simp] theorem State.push_freeCount : (s.push v).freeCount = s.freeCount := rfl

end

/-! ### Writes that change nothing, and successive writes -/

@[simp] theorem State.push_nil (s : State) : s.push [] = s := by
  simp [State.push]

@[simp] theorem State.push_push (s : State) (a b : List Output) :
    (s.push a).push b = s.push (a ++ b) := by
  simp [State.push]

@[simp] theorem State.setRxBuf_self (s : State) : s.setRxBuf s.rxBuf = s := rfl

@[simp] theorem State.setRxBuf_setRxBuf (s : State) (a b : Bytes) :
    (s.setRxBuf a).setRxBuf b = s.setRxBuf b := rfl

@[simp] theorem State.setInbox_setInbox (s : State) (a b : List Stimulus) :
    (s.setInbox a).setInbox b = s.setInbox b := rfl

end Sys2Proof.Machine
end

