-- ==== Sys2Proof/Laws/Ops.lean ====
section
/-! SUPPORT. For each shared operation, what it can do: the fields it leaves alone, the values it writes. -/

namespace Sys2Proof.Machine
/-! ### Error outcomes -/

@[simp] theorem raiseUnknownCommand_crcAcc (id : BitVec 4) (s : State) :
    (raiseUnknownCommand id s).crcAcc = s.crcAcc := rfl

@[simp] theorem raiseUnknownCommand_rxBuf (id : BitVec 4) (s : State) :
    (raiseUnknownCommand id s).rxBuf = s.rxBuf := rfl

@[simp] theorem raiseUnknownCommand_fsmState (id : BitVec 4) (s : State) :
    (raiseUnknownCommand id s).fsmState = s.fsmState := rfl

@[simp] theorem raiseUnknownCommand_disableFlag (id : BitVec 4) (s : State) :
    (raiseUnknownCommand id s).disableFlag = s.disableFlag := rfl

@[simp] theorem raiseUnknownCommand_stuckArmed (id : BitVec 4) (s : State) :
    (raiseUnknownCommand id s).stuckArmed = s.stuckArmed := rfl

@[simp] theorem raiseUnknownCommand_stuckFired (id : BitVec 4) (s : State) :
    (raiseUnknownCommand id s).stuckFired = s.stuckFired := rfl

@[simp] theorem raiseUnknownCommand_denomTab (id : BitVec 4) (s : State) :
    (raiseUnknownCommand id s).denomTab = s.denomTab := rfl

@[simp] theorem raiseUnknownCommand_swVersion (id : BitVec 4) (s : State) :
    (raiseUnknownCommand id s).swVersion = s.swVersion := rfl

@[simp] theorem raiseUnknownCommand_frm (id : BitVec 4) (s : State) :
    (raiseUnknownCommand id s).frm = s.frm := rfl

@[simp] theorem raiseUnknownCommand_cfg (id : BitVec 4) (s : State) :
    (raiseUnknownCommand id s).cfg = s.cfg := rfl

@[simp] theorem raiseUnknownCommand_inbox (id : BitVec 4) (s : State) :
    (raiseUnknownCommand id s).inbox = s.inbox := rfl

@[simp] theorem raiseUnknownCommand_freeCount (id : BitVec 4) (s : State) :
    (raiseUnknownCommand id s).freeCount = s.freeCount := rfl

@[simp] theorem raiseInvalidTransition_crcAcc (code : BitVec 6) (s : State) :
    (raiseInvalidTransition code s).crcAcc = s.crcAcc := rfl

@[simp] theorem raiseInvalidTransition_rxBuf (code : BitVec 6) (s : State) :
    (raiseInvalidTransition code s).rxBuf = s.rxBuf := rfl

@[simp] theorem raiseInvalidTransition_fsmState (code : BitVec 6) (s : State) :
    (raiseInvalidTransition code s).fsmState = s.fsmState := rfl

@[simp] theorem raiseInvalidTransition_disableFlag (code : BitVec 6) (s : State) :
    (raiseInvalidTransition code s).disableFlag = s.disableFlag := rfl

@[simp] theorem raiseInvalidTransition_stuckArmed (code : BitVec 6) (s : State) :
    (raiseInvalidTransition code s).stuckArmed = s.stuckArmed := rfl

@[simp] theorem raiseInvalidTransition_stuckFired (code : BitVec 6) (s : State) :
    (raiseInvalidTransition code s).stuckFired = s.stuckFired := rfl

@[simp] theorem raiseInvalidTransition_denomTab (code : BitVec 6) (s : State) :
    (raiseInvalidTransition code s).denomTab = s.denomTab := rfl

@[simp] theorem raiseInvalidTransition_swVersion (code : BitVec 6) (s : State) :
    (raiseInvalidTransition code s).swVersion = s.swVersion := rfl

@[simp] theorem raiseInvalidTransition_frm (code : BitVec 6) (s : State) :
    (raiseInvalidTransition code s).frm = s.frm := rfl

@[simp] theorem raiseInvalidTransition_cfg (code : BitVec 6) (s : State) :
    (raiseInvalidTransition code s).cfg = s.cfg := rfl

@[simp] theorem raiseInvalidTransition_inbox (code : BitVec 6) (s : State) :
    (raiseInvalidTransition code s).inbox = s.inbox := rfl

@[simp] theorem raiseInvalidTransition_freeCount (code : BitVec 6) (s : State) :
    (raiseInvalidTransition code s).freeCount = s.freeCount := rfl

/-! ### `txEncode` -/

@[simp] theorem txEncode_crcAcc (c : CmdName) (p0 p1 : Option Byte) (s : State) :
    (txEncode c p0 p1 s).crcAcc = s.crcAcc := by
  unfold txEncode
  split
  · rfl
  · dsimp only
    split <;> rfl

@[simp] theorem txEncode_rxBuf (c : CmdName) (p0 p1 : Option Byte) (s : State) :
    (txEncode c p0 p1 s).rxBuf = s.rxBuf := by
  unfold txEncode
  split
  · rfl
  · dsimp only
    split <;> rfl

@[simp] theorem txEncode_fsmState (c : CmdName) (p0 p1 : Option Byte) (s : State) :
    (txEncode c p0 p1 s).fsmState = s.fsmState := by
  unfold txEncode
  split
  · rfl
  · dsimp only
    split <;> rfl

@[simp] theorem txEncode_disableFlag (c : CmdName) (p0 p1 : Option Byte) (s : State) :
    (txEncode c p0 p1 s).disableFlag = s.disableFlag := by
  unfold txEncode
  split
  · rfl
  · dsimp only
    split <;> rfl

@[simp] theorem txEncode_stuckArmed (c : CmdName) (p0 p1 : Option Byte) (s : State) :
    (txEncode c p0 p1 s).stuckArmed = s.stuckArmed := by
  unfold txEncode
  split
  · rfl
  · dsimp only
    split <;> rfl

@[simp] theorem txEncode_stuckFired (c : CmdName) (p0 p1 : Option Byte) (s : State) :
    (txEncode c p0 p1 s).stuckFired = s.stuckFired := by
  unfold txEncode
  split
  · rfl
  · dsimp only
    split <;> rfl

@[simp] theorem txEncode_denomTab (c : CmdName) (p0 p1 : Option Byte) (s : State) :
    (txEncode c p0 p1 s).denomTab = s.denomTab := by
  unfold txEncode
  split
  · rfl
  · dsimp only
    split <;> rfl

@[simp] theorem txEncode_swVersion (c : CmdName) (p0 p1 : Option Byte) (s : State) :
    (txEncode c p0 p1 s).swVersion = s.swVersion := by
  unfold txEncode
  split
  · rfl
  · dsimp only
    split <;> rfl

@[simp] theorem txEncode_frm (c : CmdName) (p0 p1 : Option Byte) (s : State) :
    (txEncode c p0 p1 s).frm = s.frm := by
  unfold txEncode
  split
  · rfl
  · dsimp only
    split <;> rfl

@[simp] theorem txEncode_cfg (c : CmdName) (p0 p1 : Option Byte) (s : State) :
    (txEncode c p0 p1 s).cfg = s.cfg := by
  unfold txEncode
  split
  · rfl
  · dsimp only
    split <;> rfl

@[simp] theorem txEncode_inbox (c : CmdName) (p0 p1 : Option Byte) (s : State) :
    (txEncode c p0 p1 s).inbox = s.inbox := by
  unfold txEncode
  split
  · rfl
  · dsimp only
    split <;> rfl

/-- What `TX_ENCODE` does when the command has no template (R152). -/
theorem txEncode_none {c : CmdName} {s : State} (p0 p1 : Option Byte)
    (h : templateLookup s.cfg c = none) : txEncode c p0 p1 s = s.push [.txErr c.id] := by
  simp only [txEncode, h]
  rfl

/-- What `TX_ENCODE` does for a template without slots: the stored bytes go out (R151, R154). -/
theorem txEncode_stored {c : CmdName} {s : State} {t : Template} (p0 p1 : Option Byte)
    (h : templateLookup s.cfg c = some t) (hs : t.slots = none) :
    txEncode c p0 p1 s = s.push [.diag (.dispatch c.id p0 p1), .tx t.bytes] := by
  simp [txEncode, h, hs, needsFree, commandImage]

/-- What `TX_ENCODE` does with both parameters given (R151, R155). -/
theorem txEncode_given {c : CmdName} {s : State} {t : Template} (b0 b1 : Byte)
    (h : templateLookup s.cfg c = some t) :
    txEncode c (some b0) (some b1) s =
      s.push [.diag (.dispatch c.id (some b0) (some b1)), .tx (commandImage s.cfg.crc t b0 b1)] := by
  simp [txEncode, h, needsFree]

/-- Everything `TX_ENCODE` can do to the outputs: an error, or a diagnostic and one frame. -/
theorem txEncode_out (c : CmdName) (p0 p1 : Option Byte) (s : State) :
    (txEncode c p0 p1 s).out = s.out ++ [.txErr c.id] ∨
      ∃ bytes, (txEncode c p0 p1 s).out =
        s.out ++ [.diag (.dispatch c.id p0 p1), .tx bytes] := by
  unfold txEncode
  split
  · exact .inl rfl
  · dsimp only
    split <;> exact .inr ⟨_, rfl⟩

/-! ### Transitions -/

@[simp] theorem transition_crcAcc (t : StateName) (s : State) : (transition t s).crcAcc = s.crcAcc := by
  unfold transition
  dsimp only
  split <;> rfl

@[simp] theorem transition_rxBuf (t : StateName) (s : State) : (transition t s).rxBuf = s.rxBuf := by
  unfold transition
  dsimp only
  split <;> rfl

@[simp] theorem transition_stuckFired (t : StateName) (s : State) : (transition t s).stuckFired = s.stuckFired := by
  unfold transition
  dsimp only
  split <;> rfl

@[simp] theorem transition_denomTab (t : StateName) (s : State) : (transition t s).denomTab = s.denomTab := by
  unfold transition
  dsimp only
  split <;> rfl

@[simp] theorem transition_swVersion (t : StateName) (s : State) : (transition t s).swVersion = s.swVersion := by
  unfold transition
  dsimp only
  split <;> rfl

@[simp] theorem transition_frm (t : StateName) (s : State) : (transition t s).frm = s.frm := by
  unfold transition
  dsimp only
  split <;> rfl

@[simp] theorem transition_cfg (t : StateName) (s : State) : (transition t s).cfg = s.cfg := by
  unfold transition
  dsimp only
  split <;> rfl

@[simp] theorem transition_inbox (t : StateName) (s : State) : (transition t s).inbox = s.inbox := by
  unfold transition
  dsimp only
  split <;> rfl

@[simp] theorem transition_freeCount (t : StateName) (s : State) : (transition t s).freeCount = s.freeCount := by
  unfold transition
  dsimp only
  split <;> rfl

@[simp] theorem transition_fsmState (t : StateName) (s : State) : (transition t s).fsmState = t := by
  unfold transition
  dsimp only
  split <;> rfl

@[simp] theorem transition_stuckArmed (t : StateName) (s : State) :
    (transition t s).stuckArmed = entryArms s.cfg.stuckMode t := by
  unfold transition
  dsimp only
  split
  · rename_i h
    exact h.symm
  · rename_i h
    simpa using h

@[simp] theorem transition_disableFlag (t : StateName) (s : State) :
    (transition t s).disableFlag = entryFlag t (exitFlag s.fsmState s.disableFlag) := by
  unfold transition
  dsimp only
  split <;> rfl

@[simp] theorem transition_out (t : StateName) (s : State) :
    (transition t s).out =
      s.out ++ (if entryArms s.cfg.stuckMode t then [.stuckStart] else []) := by
  unfold transition
  dsimp only
  split
  · rename_i h
    simp
  · rename_i h
    simp

/-- An event that no rule admits: only the diagnostic record (R267). -/
theorem fsmEvent_none {ev : Event} {s : State} (data : EventData)
    (h : nextState s.cfg.rules ev s.fsmState = none) :
    fsmEvent ev data s =
      (s.push [.diag (.invalidTransition ev.code s.fsmState)], ⟨.invalidTransition, [], []⟩) := by
  simp only [fsmEvent, h]
  rfl

/-- An event that a rule admits: the transition, with the hooks' outputs (R266). -/
theorem fsmEvent_some {ev : Event} {s : State} {t : StateName} (data : EventData)
    (h : nextState s.cfg.rules ev s.fsmState = some t) :
    fsmEvent ev data s = (transition t s,
      { result := .ok
        emits := exitEmits s.fsmState ++ entryEmits t s.fsmState data
        dispatches := entryDispatches t s.fsmState (exitFlag s.fsmState s.disableFlag) }) := by
  simp only [fsmEvent, h]

/-- Everything `FSM_EVENT` can do: nothing but a diagnostic, or a transition (R266, R267). -/
theorem fsmEvent_cases (ev : Event) (data : EventData) (s : State) :
    (nextState s.cfg.rules ev s.fsmState = none ∧
      (fsmEvent ev data s).1 = s.push [.diag (.invalidTransition ev.code s.fsmState)]) ∨
    ∃ t, nextState s.cfg.rules ev s.fsmState = some t ∧ (fsmEvent ev data s).1 = transition t s := by
  cases h : nextState s.cfg.rules ev s.fsmState with
  | none => exact .inl ⟨rfl, by rw [fsmEvent_none data h]⟩
  | some t => exact .inr ⟨t, rfl, by rw [fsmEvent_some data h]⟩

@[simp] theorem fsmEvent_crcAcc (ev : Event) (data : EventData) (s : State) :
    (fsmEvent ev data s).1.crcAcc = s.crcAcc := by
  rcases fsmEvent_cases ev data s with ⟨_, h⟩ | ⟨t, _, h⟩ <;> simp [h]

@[simp] theorem fsmEvent_rxBuf (ev : Event) (data : EventData) (s : State) :
    (fsmEvent ev data s).1.rxBuf = s.rxBuf := by
  rcases fsmEvent_cases ev data s with ⟨_, h⟩ | ⟨t, _, h⟩ <;> simp [h]

@[simp] theorem fsmEvent_stuckFired (ev : Event) (data : EventData) (s : State) :
    (fsmEvent ev data s).1.stuckFired = s.stuckFired := by
  rcases fsmEvent_cases ev data s with ⟨_, h⟩ | ⟨t, _, h⟩ <;> simp [h]

@[simp] theorem fsmEvent_denomTab (ev : Event) (data : EventData) (s : State) :
    (fsmEvent ev data s).1.denomTab = s.denomTab := by
  rcases fsmEvent_cases ev data s with ⟨_, h⟩ | ⟨t, _, h⟩ <;> simp [h]

@[simp] theorem fsmEvent_swVersion (ev : Event) (data : EventData) (s : State) :
    (fsmEvent ev data s).1.swVersion = s.swVersion := by
  rcases fsmEvent_cases ev data s with ⟨_, h⟩ | ⟨t, _, h⟩ <;> simp [h]

@[simp] theorem fsmEvent_frm (ev : Event) (data : EventData) (s : State) :
    (fsmEvent ev data s).1.frm = s.frm := by
  rcases fsmEvent_cases ev data s with ⟨_, h⟩ | ⟨t, _, h⟩ <;> simp [h]

@[simp] theorem fsmEvent_cfg (ev : Event) (data : EventData) (s : State) :
    (fsmEvent ev data s).1.cfg = s.cfg := by
  rcases fsmEvent_cases ev data s with ⟨_, h⟩ | ⟨t, _, h⟩ <;> simp [h]

@[simp] theorem fsmEvent_inbox (ev : Event) (data : EventData) (s : State) :
    (fsmEvent ev data s).1.inbox = s.inbox := by
  rcases fsmEvent_cases ev data s with ⟨_, h⟩ | ⟨t, _, h⟩ <;> simp [h]

@[simp] theorem fsmEvent_freeCount (ev : Event) (data : EventData) (s : State) :
    (fsmEvent ev data s).1.freeCount = s.freeCount := by
  rcases fsmEvent_cases ev data s with ⟨_, h⟩ | ⟨t, _, h⟩ <;> simp [h]

/-! ### Caches -/

@[simp] theorem populate_crcAcc (es : List DenomEntry) (s : State) : (populate es s).crcAcc = s.crcAcc := by
  unfold populate
  split <;> rfl

@[simp] theorem populate_rxBuf (es : List DenomEntry) (s : State) : (populate es s).rxBuf = s.rxBuf := by
  unfold populate
  split <;> rfl

@[simp] theorem populate_fsmState (es : List DenomEntry) (s : State) : (populate es s).fsmState = s.fsmState := by
  unfold populate
  split <;> rfl

@[simp] theorem populate_disableFlag (es : List DenomEntry) (s : State) : (populate es s).disableFlag = s.disableFlag := by
  unfold populate
  split <;> rfl

@[simp] theorem populate_stuckArmed (es : List DenomEntry) (s : State) : (populate es s).stuckArmed = s.stuckArmed := by
  unfold populate
  split <;> rfl

@[simp] theorem populate_stuckFired (es : List DenomEntry) (s : State) : (populate es s).stuckFired = s.stuckFired := by
  unfold populate
  split <;> rfl

@[simp] theorem populate_swVersion (es : List DenomEntry) (s : State) : (populate es s).swVersion = s.swVersion := by
  unfold populate
  split <;> rfl

@[simp] theorem populate_frm (es : List DenomEntry) (s : State) : (populate es s).frm = s.frm := by
  unfold populate
  split <;> rfl

@[simp] theorem populate_cfg (es : List DenomEntry) (s : State) : (populate es s).cfg = s.cfg := by
  unfold populate
  split <;> rfl

@[simp] theorem populate_inbox (es : List DenomEntry) (s : State) : (populate es s).inbox = s.inbox := by
  unfold populate
  split <;> rfl

@[simp] theorem populate_out (es : List DenomEntry) (s : State) : (populate es s).out = s.out := by
  unfold populate
  split <;> rfl

@[simp] theorem populate_freeCount (es : List DenomEntry) (s : State) : (populate es s).freeCount = s.freeCount := by
  unfold populate
  split <;> rfl

@[simp] theorem populate_denomTab (es : List DenomEntry) (s : State) :
    (populate es s).denomTab = some (s.denomTab.getD (tabBuild es)) := by
  unfold populate
  split
  · rename_i h
    simp [h]
  · rename_i h
    simp [h]

@[simp] theorem cacheVersion_crcAcc (v : Bytes) (s : State) : (cacheVersion v s).crcAcc = s.crcAcc := by
  unfold cacheVersion
  split <;> rfl

@[simp] theorem cacheVersion_rxBuf (v : Bytes) (s : State) : (cacheVersion v s).rxBuf = s.rxBuf := by
  unfold cacheVersion
  split <;> rfl

@[simp] theorem cacheVersion_fsmState (v : Bytes) (s : State) : (cacheVersion v s).fsmState = s.fsmState := by
  unfold cacheVersion
  split <;> rfl

@[simp] theorem cacheVersion_disableFlag (v : Bytes) (s : State) : (cacheVersion v s).disableFlag = s.disableFlag := by
  unfold cacheVersion
  split <;> rfl

@[simp] theorem cacheVersion_stuckArmed (v : Bytes) (s : State) : (cacheVersion v s).stuckArmed = s.stuckArmed := by
  unfold cacheVersion
  split <;> rfl

@[simp] theorem cacheVersion_stuckFired (v : Bytes) (s : State) : (cacheVersion v s).stuckFired = s.stuckFired := by
  unfold cacheVersion
  split <;> rfl

@[simp] theorem cacheVersion_denomTab (v : Bytes) (s : State) : (cacheVersion v s).denomTab = s.denomTab := by
  unfold cacheVersion
  split <;> rfl

@[simp] theorem cacheVersion_frm (v : Bytes) (s : State) : (cacheVersion v s).frm = s.frm := by
  unfold cacheVersion
  split <;> rfl

@[simp] theorem cacheVersion_cfg (v : Bytes) (s : State) : (cacheVersion v s).cfg = s.cfg := by
  unfold cacheVersion
  split <;> rfl

@[simp] theorem cacheVersion_inbox (v : Bytes) (s : State) : (cacheVersion v s).inbox = s.inbox := by
  unfold cacheVersion
  split <;> rfl

@[simp] theorem cacheVersion_out (v : Bytes) (s : State) : (cacheVersion v s).out = s.out := by
  unfold cacheVersion
  split <;> rfl

@[simp] theorem cacheVersion_freeCount (v : Bytes) (s : State) : (cacheVersion v s).freeCount = s.freeCount := by
  unfold cacheVersion
  split <;> rfl

@[simp] theorem cacheVersion_swVersion (v : Bytes) (s : State) :
    (cacheVersion v s).swVersion = some (s.swVersion.getD v) := by
  unfold cacheVersion
  split
  · rename_i h
    simp [h]
  · rename_i h
    simp [h]

/-! ### The glue -/

@[simp] theorem afterEmit_crcAcc (s : State) (e : DomainEvent) : (afterEmit s e).crcAcc = s.crcAcc := by
  unfold afterEmit
  split <;> simp

@[simp] theorem afterEmit_rxBuf (s : State) (e : DomainEvent) : (afterEmit s e).rxBuf = s.rxBuf := by
  unfold afterEmit
  split <;> simp

@[simp] theorem afterEmit_fsmState (s : State) (e : DomainEvent) : (afterEmit s e).fsmState = s.fsmState := by
  unfold afterEmit
  split <;> simp

@[simp] theorem afterEmit_disableFlag (s : State) (e : DomainEvent) : (afterEmit s e).disableFlag = s.disableFlag := by
  unfold afterEmit
  split <;> simp

@[simp] theorem afterEmit_stuckArmed (s : State) (e : DomainEvent) : (afterEmit s e).stuckArmed = s.stuckArmed := by
  unfold afterEmit
  split <;> simp

@[simp] theorem afterEmit_stuckFired (s : State) (e : DomainEvent) : (afterEmit s e).stuckFired = s.stuckFired := by
  unfold afterEmit
  split <;> simp

@[simp] theorem afterEmit_frm (s : State) (e : DomainEvent) : (afterEmit s e).frm = s.frm := by
  unfold afterEmit
  split <;> simp

@[simp] theorem afterEmit_cfg (s : State) (e : DomainEvent) : (afterEmit s e).cfg = s.cfg := by
  unfold afterEmit
  split <;> simp

@[simp] theorem afterEmit_inbox (s : State) (e : DomainEvent) : (afterEmit s e).inbox = s.inbox := by
  unfold afterEmit
  split <;> simp

@[simp] theorem afterDispatch_crcAcc (s : State) (c : CmdName) :
    (afterDispatch s c).crcAcc = s.crcAcc := by
  simp [afterDispatch]

@[simp] theorem afterDispatch_rxBuf (s : State) (c : CmdName) :
    (afterDispatch s c).rxBuf = s.rxBuf := by
  simp [afterDispatch]

@[simp] theorem afterDispatch_fsmState (s : State) (c : CmdName) :
    (afterDispatch s c).fsmState = s.fsmState := by
  simp [afterDispatch]

@[simp] theorem afterDispatch_disableFlag (s : State) (c : CmdName) :
    (afterDispatch s c).disableFlag = s.disableFlag := by
  simp [afterDispatch]

@[simp] theorem afterDispatch_stuckArmed (s : State) (c : CmdName) :
    (afterDispatch s c).stuckArmed = s.stuckArmed := by
  simp [afterDispatch]

@[simp] theorem afterDispatch_stuckFired (s : State) (c : CmdName) :
    (afterDispatch s c).stuckFired = s.stuckFired := by
  simp [afterDispatch]

@[simp] theorem afterDispatch_denomTab (s : State) (c : CmdName) :
    (afterDispatch s c).denomTab = s.denomTab := by
  simp [afterDispatch]

@[simp] theorem afterDispatch_swVersion (s : State) (c : CmdName) :
    (afterDispatch s c).swVersion = s.swVersion := by
  simp [afterDispatch]

@[simp] theorem afterDispatch_frm (s : State) (c : CmdName) :
    (afterDispatch s c).frm = s.frm := by
  simp [afterDispatch]

@[simp] theorem afterDispatch_cfg (s : State) (c : CmdName) :
    (afterDispatch s c).cfg = s.cfg := by
  simp [afterDispatch]

@[simp] theorem afterDispatch_inbox (s : State) (c : CmdName) :
    (afterDispatch s c).inbox = s.inbox := by
  simp [afterDispatch]

theorem foldl_afterEmit_crcAcc (l : List DomainEvent) (s : State) :
    (l.foldl afterEmit s).crcAcc = s.crcAcc := by
  induction l generalizing s with
  | nil => rfl
  | cons e l ih => simp [ih]

theorem foldl_afterEmit_rxBuf (l : List DomainEvent) (s : State) :
    (l.foldl afterEmit s).rxBuf = s.rxBuf := by
  induction l generalizing s with
  | nil => rfl
  | cons e l ih => simp [ih]

theorem foldl_afterEmit_fsmState (l : List DomainEvent) (s : State) :
    (l.foldl afterEmit s).fsmState = s.fsmState := by
  induction l generalizing s with
  | nil => rfl
  | cons e l ih => simp [ih]

theorem foldl_afterEmit_disableFlag (l : List DomainEvent) (s : State) :
    (l.foldl afterEmit s).disableFlag = s.disableFlag := by
  induction l generalizing s with
  | nil => rfl
  | cons e l ih => simp [ih]

theorem foldl_afterEmit_stuckArmed (l : List DomainEvent) (s : State) :
    (l.foldl afterEmit s).stuckArmed = s.stuckArmed := by
  induction l generalizing s with
  | nil => rfl
  | cons e l ih => simp [ih]

theorem foldl_afterEmit_stuckFired (l : List DomainEvent) (s : State) :
    (l.foldl afterEmit s).stuckFired = s.stuckFired := by
  induction l generalizing s with
  | nil => rfl
  | cons e l ih => simp [ih]

theorem foldl_afterEmit_frm (l : List DomainEvent) (s : State) :
    (l.foldl afterEmit s).frm = s.frm := by
  induction l generalizing s with
  | nil => rfl
  | cons e l ih => simp [ih]

theorem foldl_afterEmit_cfg (l : List DomainEvent) (s : State) :
    (l.foldl afterEmit s).cfg = s.cfg := by
  induction l generalizing s with
  | nil => rfl
  | cons e l ih => simp [ih]

theorem foldl_afterEmit_inbox (l : List DomainEvent) (s : State) :
    (l.foldl afterEmit s).inbox = s.inbox := by
  induction l generalizing s with
  | nil => rfl
  | cons e l ih => simp [ih]

theorem foldl_afterDispatch_crcAcc (l : List CmdName) (s : State) :
    (l.foldl afterDispatch s).crcAcc = s.crcAcc := by
  induction l generalizing s with
  | nil => rfl
  | cons c l ih => simp [ih]

theorem foldl_afterDispatch_rxBuf (l : List CmdName) (s : State) :
    (l.foldl afterDispatch s).rxBuf = s.rxBuf := by
  induction l generalizing s with
  | nil => rfl
  | cons c l ih => simp [ih]

theorem foldl_afterDispatch_fsmState (l : List CmdName) (s : State) :
    (l.foldl afterDispatch s).fsmState = s.fsmState := by
  induction l generalizing s with
  | nil => rfl
  | cons c l ih => simp [ih]

theorem foldl_afterDispatch_disableFlag (l : List CmdName) (s : State) :
    (l.foldl afterDispatch s).disableFlag = s.disableFlag := by
  induction l generalizing s with
  | nil => rfl
  | cons c l ih => simp [ih]

theorem foldl_afterDispatch_stuckArmed (l : List CmdName) (s : State) :
    (l.foldl afterDispatch s).stuckArmed = s.stuckArmed := by
  induction l generalizing s with
  | nil => rfl
  | cons c l ih => simp [ih]

theorem foldl_afterDispatch_stuckFired (l : List CmdName) (s : State) :
    (l.foldl afterDispatch s).stuckFired = s.stuckFired := by
  induction l generalizing s with
  | nil => rfl
  | cons c l ih => simp [ih]

theorem foldl_afterDispatch_denomTab (l : List CmdName) (s : State) :
    (l.foldl afterDispatch s).denomTab = s.denomTab := by
  induction l generalizing s with
  | nil => rfl
  | cons c l ih => simp [ih]

theorem foldl_afterDispatch_swVersion (l : List CmdName) (s : State) :
    (l.foldl afterDispatch s).swVersion = s.swVersion := by
  induction l generalizing s with
  | nil => rfl
  | cons c l ih => simp [ih]

theorem foldl_afterDispatch_frm (l : List CmdName) (s : State) :
    (l.foldl afterDispatch s).frm = s.frm := by
  induction l generalizing s with
  | nil => rfl
  | cons c l ih => simp [ih]

theorem foldl_afterDispatch_cfg (l : List CmdName) (s : State) :
    (l.foldl afterDispatch s).cfg = s.cfg := by
  induction l generalizing s with
  | nil => rfl
  | cons c l ih => simp [ih]

theorem foldl_afterDispatch_inbox (l : List CmdName) (s : State) :
    (l.foldl afterDispatch s).inbox = s.inbox := by
  induction l generalizing s with
  | nil => rfl
  | cons c l ih => simp [ih]

@[simp] theorem after_crcAcc (r : Reaction) (s : State) : (after r s).crcAcc = s.crcAcc := by
  simp [after, foldl_afterDispatch_crcAcc, foldl_afterEmit_crcAcc]

@[simp] theorem after_rxBuf (r : Reaction) (s : State) : (after r s).rxBuf = s.rxBuf := by
  simp [after, foldl_afterDispatch_rxBuf, foldl_afterEmit_rxBuf]

@[simp] theorem after_fsmState (r : Reaction) (s : State) : (after r s).fsmState = s.fsmState := by
  simp [after, foldl_afterDispatch_fsmState, foldl_afterEmit_fsmState]

@[simp] theorem after_disableFlag (r : Reaction) (s : State) : (after r s).disableFlag = s.disableFlag := by
  simp [after, foldl_afterDispatch_disableFlag, foldl_afterEmit_disableFlag]

@[simp] theorem after_stuckArmed (r : Reaction) (s : State) : (after r s).stuckArmed = s.stuckArmed := by
  simp [after, foldl_afterDispatch_stuckArmed, foldl_afterEmit_stuckArmed]

@[simp] theorem after_stuckFired (r : Reaction) (s : State) : (after r s).stuckFired = s.stuckFired := by
  simp [after, foldl_afterDispatch_stuckFired, foldl_afterEmit_stuckFired]

@[simp] theorem after_frm (r : Reaction) (s : State) : (after r s).frm = s.frm := by
  simp [after, foldl_afterDispatch_frm, foldl_afterEmit_frm]

@[simp] theorem after_cfg (r : Reaction) (s : State) : (after r s).cfg = s.cfg := by
  simp [after, foldl_afterDispatch_cfg, foldl_afterEmit_cfg]

@[simp] theorem after_inbox (r : Reaction) (s : State) : (after r s).inbox = s.inbox := by
  simp [after, foldl_afterDispatch_inbox, foldl_afterEmit_inbox]

@[simp] theorem react_crcAcc (ev : Event) (data : EventData) (s : State) :
    (react ev data s).crcAcc = s.crcAcc := by
  simp [react]

@[simp] theorem react_rxBuf (ev : Event) (data : EventData) (s : State) :
    (react ev data s).rxBuf = s.rxBuf := by
  simp [react]

@[simp] theorem react_stuckFired (ev : Event) (data : EventData) (s : State) :
    (react ev data s).stuckFired = s.stuckFired := by
  simp [react]

@[simp] theorem react_frm (ev : Event) (data : EventData) (s : State) :
    (react ev data s).frm = s.frm := by
  simp [react]

@[simp] theorem react_cfg (ev : Event) (data : EventData) (s : State) :
    (react ev data s).cfg = s.cfg := by
  simp [react]

@[simp] theorem react_inbox (ev : Event) (data : EventData) (s : State) :
    (react ev data s).inbox = s.inbox := by
  simp [react]

@[simp] theorem react_fsmState (ev : Event) (data : EventData) (s : State) :
    (react ev data s).fsmState = (fsmEvent ev data s).1.fsmState := by
  simp [react]

@[simp] theorem react_disableFlag (ev : Event) (data : EventData) (s : State) :
    (react ev data s).disableFlag = (fsmEvent ev data s).1.disableFlag := by
  simp [react]

@[simp] theorem react_stuckArmed (ev : Event) (data : EventData) (s : State) :
    (react ev data s).stuckArmed = (fsmEvent ev data s).1.stuckArmed := by
  simp [react]

@[simp] theorem handle_crcAcc (o : FrameOutcome) (s : State) : (handle o s).crcAcc = s.crcAcc := by
  unfold handle
  split
  · split <;> simp
  · simp
  · simp

@[simp] theorem handle_rxBuf (o : FrameOutcome) (s : State) : (handle o s).rxBuf = s.rxBuf := by
  unfold handle
  split
  · split <;> simp
  · simp
  · simp

@[simp] theorem handle_stuckFired (o : FrameOutcome) (s : State) : (handle o s).stuckFired = s.stuckFired := by
  unfold handle
  split
  · split <;> simp
  · simp
  · simp

@[simp] theorem handle_frm (o : FrameOutcome) (s : State) : (handle o s).frm = s.frm := by
  unfold handle
  split
  · split <;> simp
  · simp
  · simp

@[simp] theorem handle_cfg (o : FrameOutcome) (s : State) : (handle o s).cfg = s.cfg := by
  unfold handle
  split
  · split <;> simp
  · simp
  · simp

@[simp] theorem handle_inbox (o : FrameOutcome) (s : State) : (handle o s).inbox = s.inbox := by
  unfold handle
  split
  · split <;> simp
  · simp
  · simp

/-! ### Reception -/

@[simp] theorem record_crcAcc (s : State) (o : FrameOutcome) : (record s o).crcAcc = s.crcAcc := rfl

@[simp] theorem record_rxBuf (s : State) (o : FrameOutcome) : (record s o).rxBuf = s.rxBuf := rfl

@[simp] theorem record_fsmState (s : State) (o : FrameOutcome) : (record s o).fsmState = s.fsmState := rfl

@[simp] theorem record_disableFlag (s : State) (o : FrameOutcome) : (record s o).disableFlag = s.disableFlag := rfl

@[simp] theorem record_stuckArmed (s : State) (o : FrameOutcome) : (record s o).stuckArmed = s.stuckArmed := rfl

@[simp] theorem record_stuckFired (s : State) (o : FrameOutcome) : (record s o).stuckFired = s.stuckFired := rfl

@[simp] theorem record_denomTab (s : State) (o : FrameOutcome) : (record s o).denomTab = s.denomTab := rfl

@[simp] theorem record_swVersion (s : State) (o : FrameOutcome) : (record s o).swVersion = s.swVersion := rfl

@[simp] theorem record_cfg (s : State) (o : FrameOutcome) : (record s o).cfg = s.cfg := rfl

@[simp] theorem record_inbox (s : State) (o : FrameOutcome) : (record s o).inbox = s.inbox := rfl

@[simp] theorem record_freeCount (s : State) (o : FrameOutcome) : (record s o).freeCount = s.freeCount := rfl

@[simp] theorem record_frm (s : State) (o : FrameOutcome) : (record s o).frm = some o := rfl

@[simp] theorem record_out (s : State) (o : FrameOutcome) :
    (record s o).out = s.out ++ [.frame o] := rfl

@[simp] theorem receive_crcAcc (s : State) (o : FrameOutcome) : (receive s o).crcAcc = s.crcAcc := by
  simp [receive]

@[simp] theorem receive_rxBuf (s : State) (o : FrameOutcome) : (receive s o).rxBuf = s.rxBuf := by
  simp [receive]

@[simp] theorem receive_stuckFired (s : State) (o : FrameOutcome) : (receive s o).stuckFired = s.stuckFired := by
  simp [receive]

@[simp] theorem receive_cfg (s : State) (o : FrameOutcome) : (receive s o).cfg = s.cfg := by
  simp [receive]

@[simp] theorem receive_inbox (s : State) (o : FrameOutcome) : (receive s o).inbox = s.inbox := by
  simp [receive]

@[simp] theorem receive_frm (s : State) (o : FrameOutcome) : (receive s o).frm = some o := by
  simp [receive]

theorem foldl_record_crcAcc (l : List FrameOutcome) (s : State) :
    (l.foldl record s).crcAcc = s.crcAcc := by
  induction l generalizing s with
  | nil => rfl
  | cons o l ih => simp [ih]

theorem foldl_record_rxBuf (l : List FrameOutcome) (s : State) :
    (l.foldl record s).rxBuf = s.rxBuf := by
  induction l generalizing s with
  | nil => rfl
  | cons o l ih => simp [ih]

theorem foldl_record_fsmState (l : List FrameOutcome) (s : State) :
    (l.foldl record s).fsmState = s.fsmState := by
  induction l generalizing s with
  | nil => rfl
  | cons o l ih => simp [ih]

theorem foldl_record_disableFlag (l : List FrameOutcome) (s : State) :
    (l.foldl record s).disableFlag = s.disableFlag := by
  induction l generalizing s with
  | nil => rfl
  | cons o l ih => simp [ih]

theorem foldl_record_stuckArmed (l : List FrameOutcome) (s : State) :
    (l.foldl record s).stuckArmed = s.stuckArmed := by
  induction l generalizing s with
  | nil => rfl
  | cons o l ih => simp [ih]

theorem foldl_record_stuckFired (l : List FrameOutcome) (s : State) :
    (l.foldl record s).stuckFired = s.stuckFired := by
  induction l generalizing s with
  | nil => rfl
  | cons o l ih => simp [ih]

theorem foldl_record_denomTab (l : List FrameOutcome) (s : State) :
    (l.foldl record s).denomTab = s.denomTab := by
  induction l generalizing s with
  | nil => rfl
  | cons o l ih => simp [ih]

theorem foldl_record_swVersion (l : List FrameOutcome) (s : State) :
    (l.foldl record s).swVersion = s.swVersion := by
  induction l generalizing s with
  | nil => rfl
  | cons o l ih => simp [ih]

theorem foldl_record_cfg (l : List FrameOutcome) (s : State) :
    (l.foldl record s).cfg = s.cfg := by
  induction l generalizing s with
  | nil => rfl
  | cons o l ih => simp [ih]

theorem foldl_record_inbox (l : List FrameOutcome) (s : State) :
    (l.foldl record s).inbox = s.inbox := by
  induction l generalizing s with
  | nil => rfl
  | cons o l ih => simp [ih]

theorem foldl_record_freeCount (l : List FrameOutcome) (s : State) :
    (l.foldl record s).freeCount = s.freeCount := by
  induction l generalizing s with
  | nil => rfl
  | cons o l ih => simp [ih]

theorem foldl_record_out (l : List FrameOutcome) (s : State) :
    (l.foldl record s).out = s.out ++ l.map .frame := by
  induction l generalizing s with
  | nil => simp
  | cons o l ih => simp [ih]

theorem foldl_receive_crcAcc (l : List FrameOutcome) (s : State) :
    (l.foldl receive s).crcAcc = s.crcAcc := by
  induction l generalizing s with
  | nil => rfl
  | cons o l ih => simp [ih]

theorem foldl_receive_rxBuf (l : List FrameOutcome) (s : State) :
    (l.foldl receive s).rxBuf = s.rxBuf := by
  induction l generalizing s with
  | nil => rfl
  | cons o l ih => simp [ih]

theorem foldl_receive_stuckFired (l : List FrameOutcome) (s : State) :
    (l.foldl receive s).stuckFired = s.stuckFired := by
  induction l generalizing s with
  | nil => rfl
  | cons o l ih => simp [ih]

theorem foldl_receive_cfg (l : List FrameOutcome) (s : State) :
    (l.foldl receive s).cfg = s.cfg := by
  induction l generalizing s with
  | nil => rfl
  | cons o l ih => simp [ih]

theorem foldl_receive_inbox (l : List FrameOutcome) (s : State) :
    (l.foldl receive s).inbox = s.inbox := by
  induction l generalizing s with
  | nil => rfl
  | cons o l ih => simp [ih]

@[simp] theorem rxChunk_rxBuf (chunk : Bytes) (s : State) :
    (rxChunk chunk s).rxBuf = (ingest s.rxBuf chunk).2 := by
  simp [rxChunk, foldl_record_rxBuf, ingested]

@[simp] theorem rxChunk_out (chunk : Bytes) (s : State) :
    (rxChunk chunk s).out = s.out ++ (chunkOutcomes s chunk).map .frame := by
  simp [rxChunk, foldl_record_out, ingested]

@[simp] theorem rxChunk_crcAcc (chunk : Bytes) (s : State) : (rxChunk chunk s).crcAcc = s.crcAcc := by
  simp [rxChunk, foldl_record_crcAcc, ingested]

@[simp] theorem rxChunk_fsmState (chunk : Bytes) (s : State) : (rxChunk chunk s).fsmState = s.fsmState := by
  simp [rxChunk, foldl_record_fsmState, ingested]

@[simp] theorem rxChunk_disableFlag (chunk : Bytes) (s : State) : (rxChunk chunk s).disableFlag = s.disableFlag := by
  simp [rxChunk, foldl_record_disableFlag, ingested]

@[simp] theorem rxChunk_stuckArmed (chunk : Bytes) (s : State) : (rxChunk chunk s).stuckArmed = s.stuckArmed := by
  simp [rxChunk, foldl_record_stuckArmed, ingested]

@[simp] theorem rxChunk_stuckFired (chunk : Bytes) (s : State) : (rxChunk chunk s).stuckFired = s.stuckFired := by
  simp [rxChunk, foldl_record_stuckFired, ingested]

@[simp] theorem rxChunk_denomTab (chunk : Bytes) (s : State) : (rxChunk chunk s).denomTab = s.denomTab := by
  simp [rxChunk, foldl_record_denomTab, ingested]

@[simp] theorem rxChunk_swVersion (chunk : Bytes) (s : State) : (rxChunk chunk s).swVersion = s.swVersion := by
  simp [rxChunk, foldl_record_swVersion, ingested]

@[simp] theorem rxChunk_cfg (chunk : Bytes) (s : State) : (rxChunk chunk s).cfg = s.cfg := by
  simp [rxChunk, foldl_record_cfg, ingested]

@[simp] theorem rxChunk_inbox (chunk : Bytes) (s : State) : (rxChunk chunk s).inbox = s.inbox := by
  simp [rxChunk, foldl_record_inbox, ingested]

@[simp] theorem rxChunk_freeCount (chunk : Bytes) (s : State) : (rxChunk chunk s).freeCount = s.freeCount := by
  simp [rxChunk, foldl_record_freeCount, ingested]

@[simp] theorem deliverByte_rxBuf (s : State) (b : Byte) :
    (deliverByte s b).rxBuf = (ingest s.rxBuf [b]).2 := by
  simp [deliverByte, foldl_receive_rxBuf, ingested]

@[simp] theorem deliverByte_crcAcc (s : State) (b : Byte) : (deliverByte s b).crcAcc = s.crcAcc := by
  simp [deliverByte, foldl_receive_crcAcc, ingested]

@[simp] theorem deliverByte_stuckFired (s : State) (b : Byte) : (deliverByte s b).stuckFired = s.stuckFired := by
  simp [deliverByte, foldl_receive_stuckFired, ingested]

@[simp] theorem deliverByte_cfg (s : State) (b : Byte) : (deliverByte s b).cfg = s.cfg := by
  simp [deliverByte, foldl_receive_cfg, ingested]

@[simp] theorem deliverByte_inbox (s : State) (b : Byte) : (deliverByte s b).inbox = s.inbox := by
  simp [deliverByte, foldl_receive_inbox, ingested]

@[simp] theorem rxDeliver_crcAcc (chunk : Bytes) (s : State) : (rxDeliver chunk s).crcAcc = s.crcAcc := by
  unfold rxDeliver
  induction chunk generalizing s with
  | nil => rfl
  | cons b bs ih => simp [ih]

@[simp] theorem rxDeliver_stuckFired (chunk : Bytes) (s : State) : (rxDeliver chunk s).stuckFired = s.stuckFired := by
  unfold rxDeliver
  induction chunk generalizing s with
  | nil => rfl
  | cons b bs ih => simp [ih]

@[simp] theorem rxDeliver_cfg (chunk : Bytes) (s : State) : (rxDeliver chunk s).cfg = s.cfg := by
  unfold rxDeliver
  induction chunk generalizing s with
  | nil => rfl
  | cons b bs ih => simp [ih]

@[simp] theorem rxDeliver_inbox (chunk : Bytes) (s : State) : (rxDeliver chunk s).inbox = s.inbox := by
  unfold rxDeliver
  induction chunk generalizing s with
  | nil => rfl
  | cons b bs ih => simp [ih]

/-- Delivering a chunk in two parts is delivering it whole (R330). -/
theorem rxDeliver_append (a b : Bytes) (s : State) :
    rxDeliver (a ++ b) s = rxDeliver b (rxDeliver a s) := by
  simp [rxDeliver]

/-! ### Session -/

@[simp] theorem fsmNew_crcAcc (s : State) : (fsmNew s).crcAcc = s.crcAcc := rfl

@[simp] theorem fsmNew_rxBuf (s : State) : (fsmNew s).rxBuf = s.rxBuf := rfl

@[simp] theorem fsmNew_denomTab (s : State) : (fsmNew s).denomTab = s.denomTab := rfl

@[simp] theorem fsmNew_swVersion (s : State) : (fsmNew s).swVersion = s.swVersion := rfl

@[simp] theorem fsmNew_frm (s : State) : (fsmNew s).frm = s.frm := rfl

@[simp] theorem fsmNew_cfg (s : State) : (fsmNew s).cfg = s.cfg := rfl

@[simp] theorem fsmNew_inbox (s : State) : (fsmNew s).inbox = s.inbox := rfl

@[simp] theorem fsmNew_out (s : State) : (fsmNew s).out = s.out := rfl

@[simp] theorem fsmNew_freeCount (s : State) : (fsmNew s).freeCount = s.freeCount := rfl

end Sys2Proof.Machine
end

