-- ==== Sys2Proof/Laws/Memory.lean ====
section
/-! SUPPORT. The denomination table, the one keyed store of the block: reads after writes, and the
canonical form, which every operation on it keeps (10_state.md R30, 45_glue.md R336). -/

namespace Sys2Proof.Machine

/-- The codes of a canonical table lie above those before them. -/
theorem tabWf_cons {d : DenomEntry} {m : DenomTab} :
    tabWf (d :: m) = true ↔ (∀ e ∈ m, d.code.toNat < e.code.toNat) ∧ tabWf m = true := by
  simp [tabWf]

/-- An entry of a table after an insertion is the new one or an old one. -/
theorem mem_tabInsert {e x : DenomEntry} {m : DenomTab} (h : x ∈ tabInsert e m) : x = e ∨ x ∈ m := by
  induction m with
  | nil => simpa [tabInsert] using h
  | cons d m ih =>
    unfold tabInsert at h
    split at h
    · simpa using h
    · split at h
      · rcases List.mem_cons.1 h with h | h
        · exact .inl h
        · exact .inr (List.mem_cons_of_mem _ h)
      · rcases List.mem_cons.1 h with h | h
        · exact .inr (h ▸ List.mem_cons_self)
        · exact (ih h).imp_right (List.mem_cons_of_mem _)

/-- A write keeps the canonical form. -/
theorem tabInsert_wf (e : DenomEntry) {m : DenomTab} (h : tabWf m = true) :
    tabWf (tabInsert e m) = true := by
  induction m with
  | nil => simp [tabInsert, tabWf]
  | cons d m ih =>
    obtain ⟨hd, hm⟩ := tabWf_cons.1 h
    unfold tabInsert
    split
    · rename_i hlt
      refine tabWf_cons.2 ⟨fun x hx => ?_, h⟩
      rcases List.mem_cons.1 hx with rfl | hx
      · exact hlt
      · exact hlt.trans (hd x hx)
    · split
      · rename_i heq
        exact tabWf_cons.2 ⟨fun x hx => heq ▸ hd x hx, hm⟩
      · rename_i hlt hne
        refine tabWf_cons.2 ⟨fun x hx => ?_, ih hm⟩
        rcases mem_tabInsert hx with rfl | hx
        · have : d.code.toNat ≠ x.code.toNat := fun h => hne (BitVec.eq_of_toNat_eq h.symm)
          omega
        · exact hd x hx

/-- Building a table gives the canonical form. -/
theorem tabBuild_wf (entries : List DenomEntry) : tabWf (tabBuild entries) = true := by
  suffices h : ∀ m, tabWf m = true →
      tabWf (entries.foldl (fun m e => tabInsert e m) m) = true from h [] rfl
  induction entries with
  | nil => exact fun m h => h
  | cons e es ih => exact fun m h => ih _ (tabInsert_wf e h)

/-- A read after a write to the same code gives what was written. -/
theorem tabLookup_tabInsert_same (e : DenomEntry) (m : DenomTab) :
    tabLookup (tabInsert e m) e.code = some (e.sig, e.exp) := by
  induction m with
  | nil => simp [tabInsert, tabLookup]
  | cons d m ih =>
    unfold tabInsert
    split
    · simp [tabLookup]
    · split
      · simp [tabLookup]
      · rename_i hne
        have hd : (d.code == e.code) = false := by simpa using fun h => hne h.symm
        simpa [tabLookup, List.find?_cons, hd] using ih

/-- A write leaves every other code alone. -/
theorem tabLookup_tabInsert_other {e : DenomEntry} {c : Byte} (m : DenomTab) (h : c ≠ e.code) :
    tabLookup (tabInsert e m) c = tabLookup m c := by
  have he : (e.code == c) = false := by simpa using fun h' => h h'.symm
  induction m with
  | nil => simp [tabInsert, tabLookup, he]
  | cons d m ih =>
    unfold tabInsert
    split
    · simp [tabLookup, List.find?_cons, he]
    · split
      · rename_i heq
        have hd : (d.code == c) = false := heq ▸ he
        simp [tabLookup, he, hd]
      · simp only [tabLookup, List.find?_cons] at ih ⊢
        split <;> simp_all

/-- The bootstrap keeps the canonical form. -/
theorem populate_wf (entries : List DenomEntry) {s : State} (h : Memory.wf s.denomTab = true) :
    Memory.wf (populate entries s).denomTab = true := by
  cases hs : s.denomTab with
  | none => simp [hs, Memory.wf, tabBuild_wf]
  | some m => simpa [hs, Memory.wf] using h

/-- The reset state has an empty table, in canonical form. -/
theorem reset_memory_wf : Memory.wf State.reset.denomTab = true := rfl

end Sys2Proof.Machine
end

