-- ==== Sys2Proof/Laws/Ports.lean ====
section
/-! SUPPORT. What the frame-out port shows (00_scope.md R11, 20_memory.md R60): one lemma per signal and kind
of frame, so that no proof unfolds a port. -/

namespace Sys2Proof.Machine

/-! ### No frame since reset -/

theorem State.frmStatus_of_none {s : State} (h : s.frm = none) : s.frmStatus = 0 := by
  simp [State.frmStatus, h]

theorem State.frmOpcode_of_none {s : State} (h : s.frm = none) : s.frmOpcode = 0 := by
  simp [State.frmOpcode, h]

theorem State.frmName_of_none {s : State} (h : s.frm = none) : s.frmName = 0 := by
  simp [State.frmName, h]

theorem State.frmLen_of_none {s : State} (h : s.frm = none) : s.frmLen = 0 := by
  simp [State.frmLen, h]

theorem State.frmRead_of_none {s : State} (h : s.frm = none) (idx : Byte) : s.frmRead idx = 0 := by
  simp [State.frmRead, h]

/-! ### A frame -/

theorem State.frmStatus_of_some {s : State} {o : FrameOutcome} (h : s.frm = some o) :
    s.frmStatus = o.status := by
  simp [State.frmStatus, h]

theorem State.frmOpcode_of_opcode {s : State} {o : FrameOutcome} {b : Byte} (h : s.frm = some o)
    (ho : o.opcode? = some b) : s.frmOpcode = b := by
  simp [State.frmOpcode, h, ho]

theorem State.frmName_of_name {s : State} {o : FrameOutcome} {n : BitVec 5} (h : s.frm = some o)
    (ho : o.nameCode? = some n) : s.frmName = n := by
  simp [State.frmName, h, ho]

/-- `frm_len` is the number of payload bytes of a frame that is not malformed. -/
theorem State.frmLen_toNat {s : State} {o : FrameOutcome} (h : s.frm = some o) (hs : o.status ≠ 1)
    (hl : o.payload.length ≤ Config.maxPayload) : s.frmLen.toNat = o.payload.length := by
  have hl : o.payload.length < 256 := by simp only [Config.maxPayload] at hl; omega
  cases o with
  | malformed r => exact absurd rfl hs
  | decoded => simpa [State.frmLen, h] using hl
  | unknownResponse => simpa [State.frmLen, h] using hl

/-- The bound of R11 holds after a malformed frame too. -/
theorem State.frmLen_le_of_malformed {s : State} {r : MalformedReason}
    (h : s.frm = some (.malformed r)) : s.frmLen.toNat ≤ Config.maxPayload := by
  have := (Config.freeFrmLen s.out.length).isLt
  simp only [State.frmLen, h, BitVec.toNat_ofNat, Config.maxPayload]
  omega

theorem State.frmRead_of_payload {s : State} {o : FrameOutcome} {idx b : Byte} (h : s.frm = some o)
    (hb : o.payload[idx.toNat]? = some b) : s.frmRead idx = b := by
  simp [State.frmRead, h, hb]

end Sys2Proof.Machine
end

