-- ==== Sys2Proof/Laws/Receive.lean ====
section
/-! SUPPORT. The receive buffer (20_memory.md R70, 42_rx_ingest.md R191): what `resync` and the loop can
do, that any fuel as long as the buffer is enough, and INV_RX on exit (10_state.md R23). -/

namespace Sys2Proof

theorem frameSize_ge (len : Byte) : 2 ≤ frameSize len := Nat.le_max_right _ _

theorem resync_nil : resync [] = [] := rfl

theorem resync_sync (rest : Bytes) : resync (Config.sync :: rest) = Config.sync :: rest :=
  List.dropWhile_cons_of_neg (by simp)

theorem resync_noise {b : Byte} (h : b ≠ Config.sync) (rest : Bytes) :
    resync (b :: rest) = resync rest :=
  List.dropWhile_cons_of_pos (by simpa using h)

/-- A resynchronised buffer is empty or begins with the sync byte. -/
theorem resync_cases (buf : Bytes) : resync buf = [] ∨ ∃ rest, resync buf = Config.sync :: rest := by
  induction buf with
  | nil => exact .inl rfl
  | cons b bs ih =>
    by_cases h : b = Config.sync
    · exact .inr ⟨bs, by rw [h, resync_sync]⟩
    · rwa [resync_noise h]

theorem resync_resync (buf : Bytes) : resync (resync buf) = resync buf := by
  rcases resync_cases buf with h | ⟨rest, h⟩
  · simp [h, resync_nil]
  · rw [h, resync_sync]

theorem resync_length_le (buf : Bytes) : (resync buf).length ≤ buf.length := by
  simpa [resync] using (List.dropWhile_sublist (l := buf) (· != Config.sync)).length_le

/-- Bytes appended after a resynchronised, non-empty buffer do not change where it begins. -/
theorem resync_append (a b : Bytes) : resync (a ++ b) = resync (resync a ++ b) := by
  induction a with
  | nil => simp [resync_nil]
  | cons x xs ih =>
    by_cases h : x = Config.sync
    · subst h
      rw [resync_sync]
    · rw [List.cons_append, resync_noise h, resync_noise h, ih]

/-- The loop with no length byte in the buffer: wait (R191). -/
theorem ingestLoop_wait {buf : Bytes} (h : (resync buf)[1]? = none) (fuel : Nat) :
    ingestLoop fuel buf = ([], resync buf) := by
  cases fuel with
  | zero => rfl
  | succ n => simp only [ingestLoop, h]

/-- The loop with an incomplete frame: wait (R191). -/
theorem ingestLoop_partial {buf : Bytes} {len : Byte} (h : (resync buf)[1]? = some len)
    (hl : (resync buf).length < frameSize len) (fuel : Nat) :
    ingestLoop fuel buf = ([], resync buf) := by
  cases fuel with
  | zero => rfl
  | succ n => simp only [ingestLoop, h, if_pos hl]

/-- The loop with a complete frame: slice it off and go on (R191). -/
theorem ingestLoop_take {buf : Bytes} {len : Byte} (h : (resync buf)[1]? = some len)
    (hl : frameSize len ≤ (resync buf).length) (fuel : Nat) :
    ingestLoop (fuel + 1) buf =
      ((resync buf).take (frameSize len) ::
        (ingestLoop fuel ((resync buf).drop (frameSize len))).1,
        (ingestLoop fuel ((resync buf).drop (frameSize len))).2) := by
  simp only [ingestLoop, h, if_neg (Nat.not_lt.2 hl)]

/-- The three things a round of the loop can find. -/
theorem ingest_round (buf : Bytes) :
    (resync buf)[1]? = none ∨
    (∃ len, (resync buf)[1]? = some len ∧ (resync buf).length < frameSize len) ∨
    ∃ len, (resync buf)[1]? = some len ∧ frameSize len ≤ (resync buf).length := by
  cases h : (resync buf)[1]? with
  | none => exact .inl rfl
  | some len =>
    rcases Nat.lt_or_ge (resync buf).length (frameSize len) with hl | hl
    · exact .inr (.inl ⟨len, rfl, hl⟩)
    · exact .inr (.inr ⟨len, rfl, hl⟩)

/-- Slicing a frame off shortens the buffer by at least two bytes. -/
theorem drop_frame_length {buf : Bytes} {len : Byte} (hl : frameSize len ≤ (resync buf).length) :
    ((resync buf).drop (frameSize len)).length + 2 ≤ buf.length := by
  have h1 := frameSize_ge len
  have h2 := resync_length_le buf
  rw [List.length_drop]
  omega

/-- Fuel beyond the length of the buffer changes nothing. -/
theorem ingestLoop_fuel (fuel : Nat) (buf : Bytes) (h : buf.length ≤ fuel) :
    ingestLoop fuel buf = ingestLoop buf.length buf := by
  suffices H : ∀ n, ∀ f g buf, List.length buf ≤ n → buf.length ≤ f → buf.length ≤ g →
      ingestLoop f buf = ingestLoop g buf from H _ _ _ _ le_rfl h le_rfl
  intro n
  induction n with
  | zero =>
    intro f g buf hn _ _
    have : buf = [] := List.length_eq_zero_iff.1 (Nat.le_zero.1 hn)
    subst this
    rw [ingestLoop_wait rfl, ingestLoop_wait rfl]
  | succ n ih =>
    intro f g buf hn hf hg
    rcases ingest_round buf with h | ⟨len, h, hl⟩ | ⟨len, h, hl⟩
    · rw [ingestLoop_wait h, ingestLoop_wait h]
    · rw [ingestLoop_partial h hl, ingestLoop_partial h hl]
    · have hd := drop_frame_length hl
      obtain ⟨f, rfl⟩ : ∃ k, f = k + 1 := ⟨f - 1, by omega⟩
      obtain ⟨g, rfl⟩ : ∃ k, g = k + 1 := ⟨g - 1, by omega⟩
      rw [ingestLoop_take h hl, ingestLoop_take h hl, ih f g _ (by omega) (by omega) (by omega)]

/-- What the loop leaves begins with the sync byte, or is empty, and is an incomplete frame (R23). -/
theorem ingestLoop_rxInv (fuel : Nat) (buf : Bytes) (h : buf.length ≤ fuel) :
    Machine.rxInv (ingestLoop fuel buf).2 = true := by
  induction fuel generalizing buf with
  | zero =>
    have : buf = [] := List.length_eq_zero_iff.1 (Nat.le_zero.1 h)
    subst this
    rfl
  | succ n ih =>
    rcases ingest_round buf with h1 | ⟨len, h1, hl⟩ | ⟨len, h1, hl⟩
    · rw [ingestLoop_wait h1]
      rcases resync_cases buf with h2 | ⟨rest, h2⟩
      · simp [h2, Machine.rxInv]
      · rw [h2] at h1 ⊢
        cases rest with
        | nil => simp [Machine.rxInv]
        | cons b bs => simp at h1
    · rw [ingestLoop_partial h1 hl]
      rcases resync_cases buf with h2 | ⟨rest, h2⟩
      · simp [h2, Machine.rxInv]
      · rw [h2] at h1 hl ⊢
        cases rest with
        | nil => simp at h1
        | cons b bs =>
          obtain rfl : b = len := by simpa using h1
          simp [frameSize] at hl
          simp [Machine.rxInv]
          omega
    · rw [ingestLoop_take h1 hl]
      exact ih _ (by have := drop_frame_length hl; omega)

/-- INV_RX holds whenever the parser is done (R23, R191). -/
theorem ingest_rxInv (buf chunk : Bytes) : Machine.rxInv (ingest buf chunk).2 = true :=
  ingestLoop_rxInv _ _ le_rfl

end Sys2Proof
end

