-- ==== Sys2Proof/Laws/Safety.lean ====
section
/-! SUPPORT. The machine's own arming of the stuck timer against the states R291 names. -/

namespace Sys2Proof.Machine

/-- The machine's transient states are those of R291. -/
theorem transient_eq_mem_armingStates (t : StateName) : t.transient = decide (t ∈ armingStates) := by
  cases t <;> decide

/-- The generic entry hook arms in the states of R291 under `by_state` (R290). -/
theorem entryArms_eq_mem_armingStates (mode : StuckMode) (t : StateName) :
    entryArms mode t = decide (t ∈ armingStates ∧ mode = .byState) := by
  cases mode <;> simp [entryArms, transient_eq_mem_armingStates]

/-- The pulse of a transition, in the machine's own terms. -/
theorem armOutputs_eq (mode : StuckMode) (t : StateName) :
    armOutputs mode t = if entryArms mode t then [.stuckStart] else [] := by
  simp [armOutputs, entryArms_eq_mem_armingStates]

end Sys2Proof.Machine
end

