-- ==== Sys2Proof/Tests/Slice0.lean ====
section
/-! SUPPORT. The model's own tests: ill-formed terms refused, bytes written out from the spec's encoding decoded,
one step of each family against the spec's vectors (95_test_vectors.md), and for each statement with hypotheses
a concrete state and operands that meet them. -/

open Sys2Proof Sys2Proof.Machine

namespace Sys2Proof.Tests

-- Many kernel evaluations at once ask for more threads than the check's memory limit allows.
set_option Elab.async false

/-! ### Parameters and states -/

/-- `EX_RULES` and the default tables. -/
def exCfg : Params := { defaultParams with rules := exampleRules }

/-- Illustrative entries for what has no default: six more templates, five more opcodes, the sub-codes and the
layout of vector P21. -/
def testCfg : Params :=
  { exCfg with
    templates := defaultTemplates ++
      [(.emergency, ⟨[0xFC, 0x05, 0x9A, 0xFC, 0x6C], none⟩),
       (.count, ⟨[0xFC, 0x05, 0x9B, 0x75, 0x7D], none⟩),
       (.currencypath, ⟨[0xFC, 0x09, 0xF0, 0x20, 0xD0, 0x00, 0x00, 0x00, 0x00], some (5, 6)⟩),
       (.setCount, ⟨[0xFC, 0x09, 0xF0, 0x20, 0xE1, 0x00, 0x00, 0x00, 0x00], some (5, 6)⟩),
       (.setCurrentCount, ⟨[0xFC, 0x09, 0xF0, 0x20, 0xE2, 0x00, 0x00, 0x00, 0x00], some (5, 6)⟩),
       (.payout, ⟨[0xFC, 0x09, 0xF0, 0x20, 0x4A, 0x00, 0x00, 0x00, 0x00], some (5, 6)⟩)]
    rsp := defaultRsp ++ [(0xF0, .currencypath), (0xF1, .paying), (0xF2, .payStay),
      (0xF3, .payValid), (0xF4, .recyclerUnitFailure)]
    subcode := [(0xD0, .currencyPath), (0xA2, .count), (0x4A, .setCount), (0x4B, .setCurrentCount)]
    layout := [(.setCount, ⟨some 2, some 3, some 4⟩), (.count, ⟨some 2, some 9, none⟩)] }

/-- A rule for every event, so that every state can be entered from Connected. -/
def allRules : List Rule :=
  [badFrameRule, ⟨.powerUp, .wildcard, .powerUp⟩, ⟨.denominations, .wildcard, .denominations⟩,
   ⟨.version, .wildcard, .version⟩, ⟨.connect, .states [.start], .connected⟩,
   ⟨.connect, .states [.connected], .start⟩, ⟨.refresh, .wildcard, .refresh⟩,
   ⟨.initialise, .wildcard, .initialise⟩, ⟨.enable, .wildcard, .enable⟩,
   ⟨.disable, .wildcard, .disable⟩, ⟨.accepting, .wildcard, .accepting⟩,
   ⟨.escrow, .wildcard, .escrow⟩, ⟨.stacking, .wildcard, .stacking⟩] ++
  [⟨.vendValid, .wildcard, .vendValid⟩, ⟨.stacked, .wildcard, .stacked⟩,
   ⟨.rejecting, .wildcard, .rejecting⟩, ⟨.returning, .wildcard, .returning⟩,
   ⟨.stackerOpen, .wildcard, .stackerOpen⟩, ⟨.stackerFull, .wildcard, .stackerFull⟩,
   ⟨.acceptorJam, .wildcard, .acceptorJam⟩, ⟨.stackerJam, .wildcard, .stackerJam⟩,
   ⟨.cheated, .wildcard, .cheated⟩, ⟨.failure, .wildcard, .failure⟩,
   ⟨.comError, .wildcard, .comError⟩, ⟨.currencypath, .wildcard, .currencyPath⟩] ++
  [⟨.setCount, .wildcard, .setCount⟩, ⟨.setCurrentCount, .wildcard, .setCurrentCount⟩,
   ⟨.count, .wildcard, .count⟩, ⟨.paying, .wildcard, .paying⟩, ⟨.payStay, .wildcard, .payStay⟩,
   ⟨.payValid, .wildcard, .payValid⟩, ⟨.invalidCommand, .wildcard, .invalidCommand⟩,
   ⟨.recyclerUnitFailure, .wildcard, .recyclerUnitFailure⟩, ⟨.paused, .wildcard, .paused⟩]

/-- The reset state under given parameters, in a given state-machine state. -/
def at_ (p : Params) (f : StateName) : State := { State.reset with cfg := p, fsmState := f }

/-- A table with one entry, `61 -> (5, 2)`. -/
def tab61 : DenomTab := [⟨0x61, 0x05, 0x02⟩]

/-- A property of the next state, if there is one. -/
def after? (i : Instr) (s : State) (P : State → Bool) : Bool :=
  match exec i s with
  | .next t => P t
  | _ => false

/-- The same of one step. -/
def stepTo? (s : State) (P : State → Bool) : Bool :=
  match step s with
  | .next t => P t
  | _ => false

/-- The state-machine registers: state, `disable_flag`, `stuck_armed`. -/
def fsm3 (t : State) : StateName × Bool × Bool := (t.fsmState, t.disableFlag, t.stuckArmed)

/-- Whether a stimulus decodes to an instruction with nothing buffered. -/
def decodesTo (p : Params) (st : Stimulus) (i : Instr) : Bool :=
  match decode p [] st with
  | .ok j => j == i
  | .error _ => false

/-- Whether a stimulus is rejected under a given name. -/
def rejectedAs (p : Params) (st : Stimulus) (r : Reject) : Bool :=
  match decode p [] st with
  | .ok _ => false
  | .error q => q == r

/-! ### Encodings -/

/-- The image of each command under `testCfg`: R153 (T1 to T9), the illustrative templates (R159), each
trailer computed with the right-shifting form of R136. -/
def commandWords : List (Bytes × Instr) :=
  [([0xFC, 0x05, 0x11, 0x27, 0x56], .cmdStatus),
   ([0xFC, 0x05, 0x88, 0x6F, 0x5F], .cmdVersion),
   ([0xFC, 0x05, 0x8A, 0x7D, 0x7C], .cmdDenominations),
   ([0xFC, 0x05, 0x50, 0xAA, 0x05], .cmdAck),
   ([0xFC, 0x05, 0x40, 0x2B, 0x15], .cmdReset),
   ([0xFC, 0x05, 0x41, 0xA2, 0x04], .cmdStack),
   ([0xFC, 0x05, 0x43, 0xB0, 0x27], .cmdReject),
   ([0xFC, 0x06, 0xC3, 0x01, 0x8D, 0xC7], .cmdInhibit),
   ([0xFC, 0x06, 0xC3, 0x00, 0x04, 0xD6], .cmdUnInhibit),
   ([0xFC, 0x05, 0x9A, 0xFC, 0x6C], .cmdEmergency),
   ([0xFC, 0x05, 0x9B, 0x75, 0x7D], .cmdCount),
   ([0xFC, 0x09, 0xF0, 0x20, 0xD0, 0x01, 0x02, 0x88, 0xA6], .cmdCurrencypath 0x01 0x02),
   ([0xFC, 0x09, 0xF0, 0x20, 0xE1, 0x01, 0x02, 0xFA, 0x7A], .cmdSetCount 0x01 0x02),
   ([0xFC, 0x09, 0xF0, 0x20, 0xE2, 0x01, 0x02, 0x9E, 0x95], .cmdSetCurrentCount 0x01 0x02),
   ([0xFC, 0x09, 0xF0, 0x20, 0x4A, 0x01, 0x02, 0x8B, 0x5C], .cmdPayout 0x01 0x02)]

/-- A frame of each response row (R90), opcodes of R101, trailers by the right-shifting form of R136. -/
def responseWords : List (Bytes × Instr) :=
  [([0xFC, 0x05, 0x11, 0x27, 0x56], .rspEnable 0x11 []),
   ([0xFC, 0x05, 0x12, 0xBC, 0x64], .rspAccepting 0x12 []),
   ([0xFC, 0x06, 0x13, 0x61, 0xB0, 0xFB], .rspEscrow 0x13 [0x61]),
   ([0xFC, 0x05, 0x14, 0x8A, 0x01], .rspStacking 0x14 []),
   ([0xFC, 0x05, 0x15, 0x03, 0x10], .rspVendValid 0x15 []),
   ([0xFC, 0x06, 0x16, 0x01, 0x0E, 0xE6], .rspStacked 0x16 [0x01]),
   ([0xFC, 0x06, 0x17, 0x71, 0x51, 0x8C], .rspRejecting 0x17 [0x71]),
   ([0xFC, 0x05, 0x18, 0xE6, 0xCB], .rspReturning 0x18 []),
   ([0xFC, 0x05, 0x1A, 0xF4, 0xE8], .rspDisable 0x1A []),
   ([0xFC, 0x05, 0x1B, 0x7D, 0xF9], .rspInitialize 0x1B []),
   ([0xFC, 0x05, 0x40, 0x2B, 0x15], .rspPowerUp 0x40 []),
   ([0xFC, 0x05, 0x43, 0xB0, 0x27], .rspStackerFull 0x43 []),
   ([0xFC, 0x05, 0x44, 0x0F, 0x53], .rspStackerOpen 0x44 []),
   ([0xFC, 0x05, 0x45, 0x86, 0x42], .rspAcceptorJam 0x45 []),
   ([0xFC, 0x05, 0x46, 0x1D, 0x70], .rspStackerJam 0x46 []),
   ([0xFC, 0x05, 0x47, 0x94, 0x61], .rspPaused 0x47 []),
   ([0xFC, 0x05, 0x48, 0x63, 0x99], .rspCheated 0x48 [])]

/-- The rest of the response rows; opcodes F0 to F4 are those of `testCfg`. -/
def responseWords2 : List (Bytes × Instr) :=
  [([0xFC, 0x06, 0x49, 0xA2, 0xA0, 0x21], .rspFailure 0x49 [0xA2]),
   ([0xFC, 0x05, 0x4A, 0x71, 0xBA], .rspComError 0x4A []),
   ([0xFC, 0x05, 0x4B, 0xF8, 0xAB], .rspInvalidCommand 0x4B []),
   ([0xFC, 0x05, 0x50, 0xAA, 0x05], .rspAck 0x50 []),
   ([0xFC, 0x09, 0x88, 0x56, 0x31, 0x2E, 0x30, 0x93, 0x19], .rspVersion 0x88 [0x56, 0x31, 0x2E, 0x30]),
   ([0xFC, 0x09, 0x8A, 0x61, 0x00, 0x05, 0x02, 0xB0, 0x1D], .rspDenominations 0x8A [0x61, 0x00, 0x05, 0x02]),
   ([0xFC, 0x05, 0xC3, 0xB8, 0xA3], .rspInhibit 0xC3 []),
   ([0xFC, 0x05, 0xF1, 0x29, 0xB1], .rspPaying 0xF1 []),
   ([0xFC, 0x05, 0xF2, 0xB2, 0x83], .rspPayStay 0xF2 []),
   ([0xFC, 0x05, 0xF3, 0x3B, 0x92], .rspPayValid 0xF3 []),
   ([0xFC, 0x05, 0xF4, 0x84, 0xE6], .rspRecyclerUnitFailure 0xF4 []),
   ([0xFC, 0x0A, 0xF0, 0x20, 0xD0, 0x01, 0x02, 0x03, 0x13, 0x92], .rspPathCurrencypath 0xF0 [0x20, 0xD0, 0x01, 0x02, 0x03]),
   ([0xFC, 0x09, 0xF0, 0x20, 0xA2, 0x04, 0x05, 0xEF, 0x99], .rspPathCount 0xF0 [0x20, 0xA2, 0x04, 0x05]),
   ([0xFC, 0x0A, 0xF0, 0x20, 0x4A, 0x00, 0x03, 0x01, 0x64, 0xC0], .rspPathSetCount 0xF0 [0x20, 0x4A, 0x00, 0x03, 0x01]),
   ([0xFC, 0x09, 0xF0, 0x20, 0x4B, 0x07, 0x08, 0xDD, 0xFD], .rspPathSetCurrentCount 0xF0 [0x20, 0x4B, 0x07, 0x08]),
   ([0xFC, 0x06, 0xF0, 0x20, 0xCC, 0x6B], .rspPathUnrecognised 0xF0 [0x20]),
   ([0xFC, 0x05, 0x19, 0x6F, 0xDA], .rspUnknown 0x19 [])]

/-- Malformed frames: the five length bytes below 5 (R194) and a wrong trailer (X4). -/
def malformedWords : List (Bytes × Instr) :=
  [([0xFC, 0x00], .rxTooShort 0x00 []),
   ([0xFC, 0x01], .rxTooShort 0x01 []),
   ([0xFC, 0x02], .rxTooShort 0x02 []),
   ([0xFC, 0x03, 0x00], .rxTooShort 0x03 [0x00]),
   ([0xFC, 0x04, 0x11, 0x27], .rxTooShort 0x04 [0x11, 0x27]),
   ([0xFC, 0x05, 0x11, 0x27, 0x57], .rxCrcMismatch 0x11 [] 0x5727)]

/-- The operations, which have no bit encoding (R10). -/
def operations : List Instr :=
  [.opReset, .opCrcClear, .opCrcByte 0xFC, .opCrcRead, .opTxEncode 15 0x01 0x02, .opRxChunk [0xFC],
   .opRxByte 0xFC, .opFsmEvent .connect .noData, .opStuckFire, .opFsmNew, .opSessionRefresh,
   .opRxDeliver [0xFC], .opHostEvent 63, .opHostEnable, .opHostDisable, .opHostStack, .opHostReject,
   .opHostEmergency, .opHostCount, .opHostCurrencypath 0x01 0x02, .opHostSetcount 0x01 0x02,
   .opHostSetcurrentcount 0x01 0x02, .opHostPayout 0x01 0x02, .opHostStatus, .opHostVersion]

theorem test_decode_commands :
    (commandWords.all fun r => decodesTo testCfg (.image r.1) r.2) = true := by decide +kernel

theorem test_decode_responses :
    (responseWords.all fun r => decodesTo testCfg (.rx r.1) r.2) = true := by decide +kernel

theorem test_decode_responses2 :
    (responseWords2.all fun r => decodesTo testCfg (.rx r.1) r.2) = true := by decide +kernel

theorem test_decode_malformed :
    (malformedWords.all fun r => decodesTo testCfg (.rx r.1) r.2) = true := by decide +kernel

theorem test_decode_operations :
    (operations.all fun i => decodesTo testCfg (.strobe i) i) = true := by decide +kernel

/-- With `test_decode_*`: the encoder writes the same bytes, and every one of these terms is well-formed. -/
theorem test_encode_commands :
    (commandWords.all fun r =>
      WellFormed testCfg r.2 && encode testCfg r.2 == some (.image r.1)) = true := by decide +kernel

theorem test_encode_responses :
    ((responseWords ++ responseWords2).all fun r =>
      WellFormed testCfg r.2 && encode testCfg r.2 == some (.rx r.1)) = true := by decide +kernel

theorem test_encode_malformed :
    (malformedWords.all fun r =>
      WellFormed testCfg r.2 && encode testCfg r.2 == some (.rx r.1)) = true := by decide +kernel

theorem test_encode_operations :
    (operations.all fun i =>
      WellFormed testCfg i && encode testCfg i == some (.strobe i)) = true := by decide +kernel

theorem test_decode_rejects :
    (rejectedAs testCfg (.image [0xFC, 0x05, 0x99, 0x00, 0x00]) .unknownImage &&
      rejectedAs testCfg (.image []) .unknownImage &&
      rejectedAs testCfg (.strobe .cmdStatus) .notAnOperation &&
      rejectedAs testCfg (.strobe (.rspAck 0x50 [])) .notAnOperation) = true := by decide +kernel

/-- More than one frame, or a frame that goes on, is a delivery. -/
theorem test_decode_other_chunks :
    ([[], [0xFC], [0x00, 0xFC, 0x00], [0xFC, 0x05, 0x11, 0x27], [0xFC, 0x00, 0xFC, 0x00]].all
      fun c : Bytes => decodesTo testCfg (.rx c) (.opRxDeliver c)) = true := by decide +kernel

/-- Table words, first byte lowest; the length byte masked out reads 0. -/
theorem test_table_words :
    decodeTableWord 24 0x1105FC = some .cmdStatus ∧
    decodeTableWord 32 0x01C306FC = some .cmdInhibit ∧
    decodeTableWord 24 0x1200FC = some (.rspAccepting 0x12 []) ∧
    decodeTableWord 16 0x00FC = some (.rxTooShort 0x00 []) ∧
    decodeTableWord 24 0 = none := by decide +kernel

/-- The word is run as the first instruction after reset. -/
theorem test_word_runs_after_reset :
    stepTo? (State.reset.withFetchWord 24 0x1105FC)
      (fun t => txOf t.out == [[0xFC, 0x05, 0x11, 0x27, 0x56]]) = true := by decide +kernel

/-! ### Ill-formed terms -/

theorem test_params_wf :
    (defaultParams.wf && exCfg.wf && testCfg.wf && rulesWf allRules) = true := by decide +kernel

/-- One ill-formed template for each check of R150: below 5 bytes, above 255, sync, length, trailer, slots of a
command without parameters, none of one with, equal slots, a slot in the header, a slot in the trailer. -/
theorem test_templateWf_refuses :
    ([(.ack, ⟨[0xFC, 0x04, 0x00, 0x00], none⟩),
      (.ack, ⟨0xFC :: 0x00 :: List.replicate 254 0, none⟩),
      (.ack, ⟨[0xFB, 0x05, 0x50, 0xAA, 0x05], none⟩),
      (.ack, ⟨[0xFC, 0x06, 0x50, 0xAA, 0x05], none⟩),
      (.ack, ⟨[0xFC, 0x05, 0x50, 0xAA, 0x06], none⟩),
      (.ack, ⟨[0xFC, 0x07, 0x50, 0, 0, 0, 0], some (3, 4)⟩),
      (.payout, ⟨[0xFC, 0x05, 0x50, 0xAA, 0x05], none⟩),
      (.payout, ⟨[0xFC, 0x07, 0x50, 0, 0, 0, 0], some (3, 3)⟩),
      (.payout, ⟨[0xFC, 0x07, 0x50, 0, 0, 0, 0], some (2, 3)⟩),
      (.payout, ⟨[0xFC, 0x07, 0x50, 0, 0, 0, 0], some (3, 2)⟩),
      (.payout, ⟨[0xFC, 0x07, 0x50, 0, 0, 0, 0], some (5, 3)⟩),
      (.payout, ⟨[0xFC, 0x07, 0x50, 0, 0, 0, 0], some (3, 5)⟩)].all
      fun r : CmdName × Template =>
        !templateWf defaultCrc r.1 r.2 &&
        !({ exCfg with templates := [r] } : Params).wf) = true := by decide +kernel

/-- Boundary: slots just after the opcode and just before the trailer are well-formed. -/
theorem test_templateWf_boundary :
    templateWf defaultCrc .payout ⟨[0xFC, 0x07, 0x50, 0, 0, 0, 0], some (3, 4)⟩ = true := by
  decide +kernel

/-- The two source entries and the three names that are never values (R100). -/
theorem test_rspWf_refuses :
    ([[(0x40, .powerUp)], [(0x44, .stackerOpen)],
      [(0x40, .powerUp), (0x44, .stackerOpen), (1, .setCount)],
      [(0x40, .powerUp), (0x44, .stackerOpen), (1, .setCurrentCount)],
      [(0x40, .powerUp), (0x44, .stackerOpen), (1, .count)]].all
      fun l : List (Byte × RspName) => !rspWf { exCfg with rsp := l }) = true := by decide +kernel

/-- No `badFrame` wildcard, two wildcards for an event, a wildcard and an explicit rule, overlapping sources. -/
theorem test_rulesWf_refuses :
    ([[], [badFrameRule, ⟨.badFrame, .wildcard, .failure⟩],
      [badFrameRule, ⟨.enable, .wildcard, .enable⟩, ⟨.enable, .states [.start], .failure⟩],
      [badFrameRule, ⟨.enable, .states [.start, .count], .enable⟩,
        ⟨.enable, .states [.count], .failure⟩]].all fun l => !rulesWf l) = true := by decide +kernel

/-- One table for each membership of R263, which lacks it: Initialize to Disable, Connected to VendValid, Start
to Connected, Start to ComError, Accepting on to Enable, into Stacking, from BadFrame, a second wildcard. -/
theorem test_rulesMemberships_refuses :
    (rulesMemberships defaultRules && rulesMemberships exampleRules && rulesMemberships allRules &&
      ([fun r => r.tgt != .disable, fun r => r.tgt != .vendValid, fun r => r.tgt != .connected,
        fun r => r.tgt != .comError, fun r => r.tgt != .enable, fun r => r.tgt != .stacking,
        fun r => r.ev != .returning].all
        fun keep : Rule → Bool => !rulesMemberships (exampleRules.filter keep)) &&
      !rulesMemberships (⟨.comError, .states [.start], .comError⟩ ::
        defaultRules.filter fun r => r.tgt != .comError) &&
      !rulesMemberships (⟨.enable, .states [.disable], .enable⟩ ::
        defaultRules.filter fun r => r.tgt != .enable) &&
      !({ exCfg with rules := [badFrameRule] } : Params).wf) = true := by decide +kernel

/-- One ill-formed instruction for each check of an instruction. -/
theorem test_wellFormed_refuses :
    ([.cmdEmergency, .rspEnable 0x12 [], .rspEnable 0x11 (List.replicate 251 0),
      .rspPathCount 0xF0 [0x20, 0x4A], .rspPathCount 0x11 [0x20, 0xA2], .rspUnknown 0x11 [],
      .rspUnknown 0x19 (List.replicate 251 0), .rxTooShort 0x05 [0, 0, 0], .rxTooShort 0x04 [0],
      .rxCrcMismatch 0x11 [] 0x5627, .rxCrcMismatch 0x11 (List.replicate 251 0) 0].all
      fun i => !WellFormed { testCfg with templates := defaultTemplates } i) = true := by
  decide +kernel

/-- A command whose template has another shape, equal slots, a slot in the trailer, or an image that an earlier
command's template matches. -/
theorem test_commandWf_refuses :
    ([(.ack, [(.ack, ⟨[0xFC, 0x07, 0x50, 0, 0, 0, 0], some (3, 4)⟩)]),
      (.payout, [(.payout, ⟨[0xFC, 0x05, 0x50, 0xAA, 0x05], none⟩)]),
      (.payout, [(.payout, ⟨[0xFC, 0x07, 0x50, 0, 0, 0, 0], some (3, 3)⟩)]),
      (.payout, [(.payout, ⟨[0xFC, 0x07, 0x50, 0, 0, 0, 0], some (5, 3)⟩)]),
      (.payout, [(.payout, ⟨[0xFC, 0x07, 0x50, 0, 0, 0, 0], some (3, 5)⟩)]),
      (.ack, [(.status, ⟨[0xFC, 0x05, 0x50, 0xAA, 0x05], none⟩),
        (.ack, ⟨[0xFC, 0x05, 0x50, 0xAA, 0x05], none⟩)])].all
      fun r : CmdName × List (CmdName × Template) =>
        !commandWf { exCfg with templates := r.2 } r.1 1 2) = true := by decide +kernel

/-! ### CRC unit (vectors K2 to K10, R138) -/

theorem test_crc_byte :
    after? (.opCrcByte 0xFC) State.reset (fun t => t.crcAcc == 0xC7BC) = true := by decide +kernel

theorem test_crc_read :
    after? .opCrcRead { State.reset with crcAcc := 0xE46A }
      (fun t => t.crcAcc == 0xE46A && t.out == [.crcRead 0x5627]) = true := by decide +kernel

theorem test_crc_clear :
    after? .opCrcClear
      { State.reset with crcAcc := 1, cfg := { exCfg with crc := { defaultCrc with init := 0xFFFF } } }
      (fun t => t.crcAcc == 0xFFFF) = true := by decide +kernel

theorem test_crc_of_digits :
    let digits : Bytes := [0x31, 0x32, 0x33, 0x34, 0x35, 0x36, 0x37, 0x38, 0x39]
    crc16 defaultCrc digits = 0x2189 ∧ crc16 ⟨0x1021, 0, false, false, 0⟩ digits = 0x31C3 ∧
    crc16 ⟨0x1021, 0xFFFF, false, false, 0⟩ digits = 0x29B1 ∧
    crc16 ⟨0x1021, 0xFFFF, true, true, 0xFFFF⟩ digits = 0x906E ∧
    crc16 ⟨0x8005, 0, true, true, 0⟩ digits = 0xBB3D := by decide +kernel

/-! ### Transmit encoder (vectors T1 to T18, G11) -/

/-- T1 to T9 and, for the six commands without a default, the illustrative templates. -/
theorem test_tx_rows :
    (commandWords.all fun r =>
      after? r.2 (at_ testCfg .start) (fun t => txOf t.out == [r.1] && t.out.length == 2)) = true := by
  decide +kernel

theorem test_tx_encode :
    after? (.opTxEncode 14 0xFC 0xFF) (at_ testCfg .start)
      (fun t => t.out == [.diag (.dispatch 14 (some 0xFC) (some 0xFF)),
        .tx [0xFC, 0x09, 0xF0, 0x20, 0x4A, 0xFC, 0xFF, 0x91, 0xBC]]) = true := by decide +kernel

theorem test_tx_ignores_parameters :
    after? (.opTxEncode 0 0xAA 0xBB) (at_ testCfg .start)
      (fun t => txOf t.out == [[0xFC, 0x05, 0x11, 0x27, 0x56]]) = true := by decide +kernel

theorem test_unknown_command :
    ([(.cmdEmergency, 9), (.cmdCount, 10), (.cmdCurrencypath 1 2, 11), (.cmdSetCount 1 2, 12),
      (.cmdSetCurrentCount 1 2, 13), (.cmdPayout 1 2, 14), (.opTxEncode 15 1 2, 15),
      (.opHostEmergency, 9), (.opHostCount, 10), (.opHostPayout 1 1, 14)].all
      fun r : Instr × BitVec 4 =>
        after? r.1 State.reset (fun t => t.out == [.txErr r.2])) = true := by decide +kernel

theorem test_host_commands :
    ([(.opHostEnable, [0xFC, 0x06, 0xC3, 0x00, 0x04, 0xD6]),
      (.opHostStack, [0xFC, 0x05, 0x41, 0xA2, 0x04]), (.opHostReject, [0xFC, 0x05, 0x43, 0xB0, 0x27]),
      (.opHostEmergency, [0xFC, 0x05, 0x9A, 0xFC, 0x6C]),
      (.opHostCount, [0xFC, 0x05, 0x9B, 0x75, 0x7D]),
      (.opHostCurrencypath 1 2, [0xFC, 0x09, 0xF0, 0x20, 0xD0, 0x01, 0x02, 0x88, 0xA6]),
      (.opHostSetcount 1 2, [0xFC, 0x09, 0xF0, 0x20, 0xE1, 0x01, 0x02, 0xFA, 0x7A]),
      (.opHostSetcurrentcount 1 2, [0xFC, 0x09, 0xF0, 0x20, 0xE2, 0x01, 0x02, 0x9E, 0x95]),
      (.opHostPayout 1 1, [0xFC, 0x09, 0xF0, 0x20, 0x4A, 0x01, 0x01, 0x10, 0x6E]),
      (.opHostStatus, [0xFC, 0x05, 0x11, 0x27, 0x56]),
      (.opHostVersion, [0xFC, 0x05, 0x88, 0x6F, 0x5F])].all
      fun r : Instr × Bytes =>
        after? r.1 (at_ testCfg .enable) (fun t => txOf t.out == [r.2])) = true := by decide +kernel

/-- G5, G6, G7. -/
theorem test_host_disable :
    (after? .opHostDisable (at_ exCfg .disable) (fun t => t == at_ exCfg .disable) &&
      after? .opHostDisable (at_ exCfg .enable)
        (fun t => txOf t.out == [[0xFC, 0x06, 0xC3, 0x01, 0x8D, 0xC7]] && !t.disableFlag) &&
      after? .opHostDisable (at_ exCfg .accepting) (fun t => t.disableFlag && t.out == [])) = true := by
  decide +kernel

/-! ### Receive parser (vectors X1 to X21) -/

/-- The kind and opcode of each outcome of a chunk from an empty buffer. -/
def summary (chunk : Bytes) : List (BitVec 2 × Option Byte) × Bytes :=
  match exec (.opRxChunk chunk) State.reset with
  | .next t => ((framesOf t.out).map fun o => (o.status, o.opcode?), t.rxBuf)
  | _ => ([], [])

theorem test_rx_short_lengths :
    ([[0xFC, 0x00], [0xFC, 0x01], [0xFC, 0x02], [0xFC, 0x03, 0x00], [0xFC, 0x04, 0x11, 0x27],
      [0xFC, 0x05, 0x11, 0x27, 0x57]].all fun c : Bytes =>
      summary (c ++ [0xFC, 0x05, 0x11, 0x27, 0x56]) == ([(1, none), (0, some 0x11)], [])) = true := by
  decide +kernel

theorem test_rx_held_and_noise :
    summary [0x37, 0x38] = ([], []) ∧ summary [0xFC, 0x05, 0x11, 0x27] = ([], [0xFC, 0x05, 0x11, 0x27]) ∧
    summary [0xFC, 0x05, 0xFC, 0x05, 0x11, 0x27, 0x56] = ([(1, none)], []) ∧
    summary [0xFC, 0xFC, 0x05, 0x11, 0x27, 0x56] = ([], [0xFC, 0xFC, 0x05, 0x11, 0x27, 0x56]) ∧
    summary [0xFC, 0x05, 0x19, 0x6F, 0xDA] = ([(2, some 0x19)], []) := by decide +kernel

theorem test_rx_byte_completes :
    after? (.opRxByte 0x56) { State.reset with rxBuf := [0xFC, 0x05, 0x11, 0x27] }
      (fun t => t.rxBuf == [] && t.frm == some (.decoded .enable none .noData 0x11 [])) = true := by
  decide +kernel

/-! ### The frame-out port (R11, R60) -/

/-- The version frame of vector P15, first and last payload byte. -/
theorem test_port_decoded :
    after? (.rspVersion 0x88 [0x56, 0x31, 0x2E, 0x30]) (at_ exCfg .start)
      (fun t => t.frmStatus == 0 && t.frmOpcode == 0x88 && t.frmName == 21 && t.frmLen == 4 &&
        t.frmRead 0 == 0x56 && t.frmRead 3 == 0x30) = true := by decide +kernel

theorem test_port_other :
    (after? (.rspUnknown 0x19 [0xA2]) State.reset
        (fun t => t.frmStatus == 2 && t.frmOpcode == 0x19 && t.frmLen == 1 && t.frmRead 0 == 0xA2) &&
      after? (.rxTooShort 0x00 []) State.reset (fun t => t.frmStatus == 1) &&
      State.reset.frmLen == 0 && State.reset.frmRead 0xFF == 0 && State.reset.rxReady == 1) = true := by
  decide +kernel

/-! ### Payloads (vectors P1 to P21) -/

theorem test_payload_escrow :
    escrowData (some tab61) [0x61] = .escrow (some 0x61) (some (0x05, 0x02)) ∧
    escrowData (some tab61) [0x63] = .escrow (some 0x63) none ∧
    escrowData none [0x61] = .escrow (some 0x61) none ∧ escrowData (some tab61) [] = .escrow none none ∧
    denomValue (0x05, 0x02) = 500 := by decide +kernel

theorem test_payload_reject :
    rejectData exCfg [0x71] = .reject (some 0x71) (some .insertion) ∧
    rejectData exCfg [0x7A] = .reject (some 0x7A) (some .unknown) ∧
    rejectData exCfg [0x7E] = .reject (some 0x7E) (some .photoPattern) ∧
    rejectData exCfg [0x80] = .reject (some 0x80) none ∧ rejectData exCfg [] = .reject none none := by
  decide +kernel

theorem test_payload_denominations :
    denomEntries [0x61, 0, 1, 0, 0x62, 0, 5, 0, 0x63, 0, 0x0A, 0, 0x64, 0, 0, 0, 0x65, 0, 5, 1, 0x66, 0,
      0x0A, 1, 0x67] =
      [⟨0x61, 1, 0⟩, ⟨0x62, 5, 0⟩, ⟨0x63, 0x0A, 0⟩, ⟨0x65, 5, 1⟩, ⟨0x66, 0x0A, 1⟩] ∧
    denomEntries [] = [] := by decide +kernel

theorem test_payload_path :
    pathData testCfg (some .setCount) [0x20, 0x4A, 0x00, 0x03, 0x01] =
      ⟨some .setCount, some 0x00, some 0x03, some 0x01, [0x20, 0x4A, 0x00, 0x03, 0x01]⟩ ∧
    pathData testCfg (some .count) [0x20, 0xA2, 0x07] =
      ⟨some .count, some 0x07, none, none, [0x20, 0xA2, 0x07]⟩ ∧
    pathKind testCfg [0x20] = none ∧ pathKind testCfg [0x20, 0x99] = none := by decide +kernel

/-! ### State machine (vectors F1 to F24) -/

/-- The registers after an event, what it emits and what it dispatches. -/
def reacts (ev : Event) (data : EventData) (s : State)
    (r : (StateName × Bool × Bool) × List DomainEvent × List CmdName) : Bool :=
  after? (.opFsmEvent ev data) s fun t => (fsm3 t, emitsOf t.out, requestsOf t.out) == r

theorem test_fsm_connected_hooks :
    (reacts .connect .noData (at_ exCfg .start) ((.connected, false, false), [], []) &&
      reacts .version (.version [0x56]) (at_ exCfg .connected)
        ((.version, false, false), [.ready, .version (some [0x56])], []) &&
      reacts .vendValid .noData (at_ exCfg .connected) ((.vendValid, false, false), [.ready], [.reset]) &&
      reacts .vendValid .noData { at_ exCfg .stacking with stuckArmed := true }
        ((.vendValid, false, false), [.billValid], [.ack])) = true := by decide +kernel

theorem test_fsm_disable_enable :
    (reacts .disable .noData (at_ exCfg .initialise) ((.disable, false, false), [.standby], []) &&
      reacts .disable .noData (at_ exCfg .enable) ((.disable, false, false), [], []) &&
      reacts .enable .noData { at_ exCfg .rejecting with disableFlag := true, stuckArmed := true }
        ((.enable, false, false), [], [.inhibit]) &&
      reacts .enable .noData { at_ exCfg .rejecting with stuckArmed := true }
        ((.enable, false, false), [], [])) = true := by decide +kernel

theorem test_fsm_bill_events :
    (reacts .accepting .noData (at_ exCfg .enable) ((.accepting, false, true), [.billAccepted], []) &&
      reacts .rejecting (.reject (some 0x71) (some .insertion)) (at_ exCfg .escrow)
        ((.rejecting, false, true), [.billRejected (some (.table .insertion)) (some 0x71)], []) &&
      reacts .returning .noData (at_ exCfg .escrow)
        ((.returning, false, true), [.billRejected (some .returned) none], []) &&
      reacts .escrow (.escrow (some 0x61) (some (5, 2))) { at_ exCfg .accepting with stuckArmed := true }
        ((.escrow, false, false), [.billRead (some (5, 2)) (some 0x61)], [])) = true := by decide +kernel

theorem test_fsm_invalid_and_never :
    (after? (.opFsmEvent .escrow .noData) (at_ exCfg .disable)
        (fun t => t.fsmState == .disable &&
          t.out == [.diag (.invalidTransition 10 .disable), .result .invalidTransition]) &&
      reacts .badFrame .noData { at_ exCfg .accepting with disableFlag := true, stuckArmed := true }
        ((.badFrame, true, false), [], []) &&
      reacts .stacking .noData (at_ { exCfg with stuckMode := .never } .escrow)
        ((.stacking, false, false), [], [])) = true := by decide +kernel

/-- F19, F20, F21. -/
theorem test_stuck_fire :
    (after? .opStuckFire { at_ exCfg .stacking with stuckArmed := true }
        (fun t => !t.stuckArmed && t.stuckFired && t.out == [.emit .stuck]) &&
      after? .opStuckFire (at_ exCfg .enable) (fun t => t == at_ exCfg .enable)) = true := by
  decide +kernel

/-- F24; a refresh also forgets the table, a reset also the buffer and the version. -/
theorem test_session :
    let s : State := { at_ exCfg .accepting with
      disableFlag := true, stuckArmed := true, stuckFired := true, denomTab := some tab61
      swVersion := some [0x56], rxBuf := [0xFC], crcAcc := 0xE46A }
    (after? .opFsmNew s (fun t => fsm3 t == (.start, false, false) && !t.stuckFired &&
        t.denomTab == some tab61 && t.rxBuf == [0xFC]) &&
      after? .opSessionRefresh s (fun t => fsm3 t == (.start, false, false) && t.denomTab == none &&
        t.swVersion == some [0x56]) &&
      after? .opReset s (fun t => t == at_ exCfg .start)) = true := by decide +kernel

/-! ### Glue (vectors G1 to G11, programs P1 to P6) -/

/-- Every response row under a rule for every event: its namesake's state is entered, one `msg_seen`. -/
theorem test_response_rows_enter :
    (((responseWords ++ responseWords2).filter
        (fun r => match r.2 with
          | .rspAck _ _ => false
          | .rspInhibit _ _ => false
          | .rspUnknown _ _ => false
          | _ => true)).all
      fun r => after? r.2 (at_ { testCfg with rules := allRules } .disable)
        (fun t => t.fsmState != .disable && msgSeenCount t.out == 1 || t.fsmState == .disable &&
          r.2 == .rspDisable 0x1A [])) = true := by decide +kernel

theorem test_ack_inhibit_unknown :
    (after? (.rspAck 0x50 []) (at_ exCfg .enable)
        (fun t => fsm3 t == (.enable, false, false) && msgSeenCount t.out == 1 && emitsOf t.out == []) &&
      after? (.rspInhibit 0xC3 [0x01]) (at_ exCfg .enable)
        (fun t => fsm3 t == (.enable, false, false) && msgSeenCount t.out == 1) &&
      after? (.rspUnknown 0x19 []) (at_ exCfg .disable)
        (fun t => t.out == [.frame (.unknownResponse 0x19 []), .unkRsp 0x19])) = true := by decide +kernel

theorem test_malformed_rows :
    (after? (.rxCrcMismatch 0x11 [] 0x5727) (at_ exCfg .enable)
        (fun t => t.fsmState == .badFrame && msgSeenCount t.out == 0 && txOf t.out == []) &&
      after? (.rxTooShort 0x00 []) (at_ exCfg .accepting) (fun t => t.fsmState == .badFrame)) = true := by
  decide +kernel

/-- P4 step 1 and P2 step 3: an unresolved and a resolved escrow. -/
theorem test_escrow :
    (after? (.rspEscrow 0x13 [0x63]) { at_ exCfg .accepting with denomTab := some tab61 }
        (fun t => t.fsmState == .escrow && emitsOf t.out == [] &&
          txOf t.out == [[0xFC, 0x05, 0x43, 0xB0, 0x27]]) &&
      after? (.rspEscrow 0x13 [0x61]) { at_ exCfg .accepting with denomTab := some tab61 }
        (fun t => emitsOf t.out == [.billRead (some (5, 2)) (some 0x61)] && txOf t.out == [])) = true := by
  decide +kernel

/-- P6 step 2: an escrow that no rule admits is not rejected; a `HOST_EVENT` into Escrow, which has no data, is. -/
theorem test_escrow_without_rule_or_data :
    (after? (.rspEscrow 0x13 [0x61]) (at_ exCfg .disable)
        (fun t => t.fsmState == .disable && emitsOf t.out == [] && txOf t.out == []) &&
      after? (.opHostEvent 10) (at_ exCfg .accepting)
        (fun t => t.fsmState == .escrow && emitsOf t.out == [] &&
          txOf t.out == [[0xFC, 0x05, 0x43, 0xB0, 0x27]])) = true := by
  decide +kernel

/-- G9 and G10. -/
theorem test_denominations :
    (after? (.opRxDeliver [0xFC, 0x09, 0x8A, 0x61, 0x00, 0x05, 0x02, 0xB0, 0x1D, 0xFC, 0x06, 0x13, 0x61,
          0xB0, 0xFB]) { at_ exCfg .accepting with stuckArmed := true }
        (fun t => t.fsmState == .denominations && t.denomTab == some tab61 &&
          t.frm == some (.decoded .escrow none (.escrow (some 0x61) (some (5, 2))) 0x13 [0x61])) &&
      after? (.rspDenominations 0x8A [0x61, 0x00, 0x0A, 0x02])
        { at_ exCfg .enable with denomTab := some tab61 }
        (fun t => t.fsmState == .denominations && t.denomTab == some tab61 &&
          emitsOf t.out == [.denominations (some [⟨0x61, 0x0A, 0x02⟩])])) = true := by decide +kernel

theorem test_version :
    after? (.rspVersion 0x88 [0x56, 0x31, 0x2E, 0x30]) (at_ exCfg .connected)
      (fun t => t.swVersion == some [0x56, 0x31, 0x2E, 0x30] &&
        emitsOf t.out == [.ready, .version (some [0x56, 0x31, 0x2E, 0x30])]) = true := by decide +kernel

/-- P1 step 1; P3 step 2: the commands a hook requests are sent. -/
theorem test_host_event :
    (after? (.opHostEvent 4) (at_ exCfg .start) (fun t => t.fsmState == .connected && t.out == [.result .ok]) &&
      after? (.rspVendValid 0x15 []) (at_ exCfg .connected)
        (fun t => emitsOf t.out == [.ready] && txOf t.out == [[0xFC, 0x05, 0x40, 0x2B, 0x15]]) &&
      after? (.opHostEvent 63) (at_ exCfg .start)
        (fun t => t.out == [.diag (.invalidTransition 63 .start), .result .invalidTransition])) = true := by
  decide +kernel

/-! ### Witnesses: states and operands that meet the hypotheses of the statements -/

theorem test_witness_crcByte_zero : State.reset.crcAcc = 0 := by decide

theorem test_witness_changedByte :
    defaultCrc.poly.getLsbD 0 = true ∧ 2 < ([0xFC, 0x05, 0x11] : Bytes).length ∧
    ([0xFC, 0x05, 0x11] : Bytes)[2]? ≠ some 0x12 := by decide

theorem test_witness_zeroResidue :
    defaultCrc.refin = true ∧ defaultCrc.refout = true ∧ defaultCrc.xorout = 0 ∧
    defaultCrc.poly.getLsbD 0 = true := by decide

/-- `TxEncodeReturnsThePatchedImage`, `UnknownCommandExactlyWithoutTemplate`: no template (9 and 15). -/
theorem test_witness_noTemplate :
    (∀ c : CmdName, c.id = 9 → templateLookup State.reset.cfg c = none) ∧
    ∀ c : CmdName, c.id = 15 → templateLookup State.reset.cfg c = none := by
  constructor <;> intro c <;> cases c <;> decide

/-- `TxEncodeReturnsThePatchedImage`: a template without slots and one with. -/
theorem test_witness_templates :
    templateLookup testCfg .status = some ⟨[0xFC, 0x05, 0x11, 0x27, 0x56], none⟩ ∧
    templateLookup testCfg .payout = some examplePayout ∧ 2 ≤ examplePayout.bytes.length := by decide

/-- `PlainCommandsSendTheirStoredFrame`, `HostCommandsSendTheirStoredFrame`: each of their commands has a
template without slots here, and none under empty tables. -/
theorem test_witness_storedFrames :
    (∀ c ∈ ([.status, .version, .denominations, .ack, .reset, .stack, .reject, .inhibit, .unInhibit,
        .emergency, .count] : List CmdName),
      ∃ bytes, HasStored testCfg c bytes ∧ templateLookup { testCfg with templates := [] } c = none) ∧
    HasStored testCfg .inhibit [0xFC, 0x06, 0xC3, 0x01, 0x8D, 0xC7] := by
  refine ⟨?_, by show templateLookup testCfg _ = _; decide⟩
  intro c hc
  simp only [List.mem_cons, List.not_mem_nil, or_false] at hc
  rcases hc with h | h | h | h | h | h | h | h | h | h | h <;> subst h <;> exact ⟨_, rfl, rfl⟩

/-- `ParametricCommandsPatchTheirFrame`: a template with slots for each, and none. -/
theorem test_witness_slots :
    ∀ c ∈ ([.currencypath, .setCount, .setCurrentCount, .payout] : List CmdName),
      (∃ bytes, templateLookup testCfg c = some ⟨bytes, some (5, 6)⟩) ∧
      templateLookup defaultParams c = none := by
  intro c hc
  simp only [List.mem_cons, List.not_mem_nil, or_false] at hc
  rcases hc with h | h | h | h <;> subst h <;> exact ⟨⟨_, rfl⟩, rfl⟩

/-- `HostDisableTakesOneOfThreeBranches`: one state for each branch. -/
theorem test_witness_hostDisable :
    (at_ exCfg .disable).fsmState = .disable ∧ (at_ exCfg .enable).fsmState = .enable ∧
    templateLookup { exCfg with templates := [] } .inhibit = none ∧
    (at_ exCfg .accepting).fsmState ≠ .disable ∧ (at_ exCfg .accepting).fsmState ≠ .enable := by decide

/-- `EncodedCommandComesBackAsOneFrame`: the receiver empty, a well-formed template of each kind. -/
theorem test_witness_commandComesBack :
    (at_ testCfg .start).rxBuf = [] ∧
    templateLookup (at_ testCfg .start).cfg .payout = some examplePayout ∧
    templateWf (at_ testCfg .start).cfg.crc .payout examplePayout = true ∧
    templateWf (at_ testCfg .start).cfg.crc .status ⟨[0xFC, 0x05, 0x11, 0x27, 0x56], none⟩ = true := by
  decide +kernel

/-- `AdmittedEventMakesTheTransition`, `InvalidTransitionChangesNothing`. -/
theorem test_witness_transition :
    nextState (at_ exCfg .enable).cfg.rules .accepting (at_ exCfg .enable).fsmState = some .accepting ∧
    nextState (at_ exCfg .disable).cfg.rules .escrow (at_ exCfg .disable).fsmState = none := by decide

/-- `LookupUnderWellFormedRules`, `BadFrameEventAlwaysSucceeds`, `MalformedFrameRaisesBadFrame`. -/
theorem test_witness_rules :
    rulesWf (at_ exCfg .connected).cfg.rules = true ∧ rulesWf State.reset.cfg.rules = true := by
  decide +kernel

/-- `SimpleEntryHooksEmitAndDispatch`: each of the 22 states can be entered. -/
theorem test_witness_simpleEntry :
    (([.powerUp, .payStay, .payValid, .accepting, .returning, .stackerOpen, .stackerFull, .acceptorJam,
       .stackerJam, .cheated, .start, .connected, .refresh, .initialise, .stacking, .failure, .comError,
       .badFrame, .paying, .invalidCommand, .recyclerUnitFailure, .paused] : List StateName).all fun t =>
      Event.all.any fun ev => [.start, .connected].any fun f =>
        nextState (at_ { exCfg with rules := allRules } f).cfg.rules ev f == some t) = true := by
  decide +kernel

/-- `EnteringEnable…` (with the deferred disable kept, dropped by leaving Disable, and none),
`EnteringDisable…` (from Initialize and from Enable), `EnteringVendValid…` (from Connected and Stacking). -/
theorem test_witness_entries :
    nextState exCfg.rules .enable .rejecting = some .enable ∧
    nextState exCfg.rules .enable .disable = some .enable ∧
    nextState exCfg.rules .disable .initialise = some .disable ∧
    nextState exCfg.rules .disable .enable = some .disable ∧
    nextState exCfg.rules .vendValid .connected = some .vendValid ∧
    nextState exCfg.rules .vendValid .stacking = some .vendValid := by decide

/-- `DataEntryHooksCarryTheEventData`: each of its nine states can be entered, with data of its shape and with
`NoData`, `StackedData` and `RejectData` of another. -/
theorem test_witness_dataEntry :
    (([.rejecting, .escrow, .stacked, .denominations, .version, .currencyPath, .setCount,
       .setCurrentCount, .count] : List StateName).all fun t =>
      Event.all.any (fun ev =>
        nextState (at_ { exCfg with rules := allRules } .connected).cfg.rules ev .connected == some t) &&
      !dataFits t .noData &&
      (!dataFits t (.stacked (some 1)) || !dataFits t (.reject none none))) = true := by decide +kernel

/-- `StuckFireRaisesStuckOnceWhileArmed`: both clauses. -/
theorem test_witness_stuckFire :
    ({ at_ exCfg .stacking with stuckArmed := true } : State).stuckArmed = true ∧
    (at_ exCfg .stacking).stuckArmed = false := by decide

/-- `NeverModeNeverArmsTheTimer`: a step into a transient state. -/
theorem test_witness_never :
    let s : State := { at_ { exCfg with stuckMode := .never } .escrow with
      inbox := [.strobe (.opFsmEvent .stacking .noData)] }
    s.cfg.stuckMode = .never ∧ s.stuckArmed = false ∧ ∃ s', step s = .next s' :=
  ⟨rfl, rfl, _, rfl⟩

/-- `HostEventTransitionsThenActs`, the second part of `ResponseRowsRaiseTheEventOfTheirName`: with every
command stored and with none, into Escrow (the automatic reject) and into VendValid from Connected. -/
theorem test_witness_hostEvent :
    nextState exCfg.rules .vendValid .connected = some .vendValid ∧ Event.vendValid.code = 12 ∧
    nextState exCfg.rules .escrow .accepting = some .escrow ∧ Event.escrow.code = 10 ∧
    (∃ sent, SendsAs exCfg sent) ∧ ∃ sent, SendsAs { exCfg with templates := [] } sent := by
  refine ⟨by decide, rfl, by decide, rfl,
    ⟨fun c => sends c ((templateLookup exCfg c).map Template.bytes |>.getD []), ?_⟩,
    ⟨fun c => [.txErr c.id], fun c _ => .inl ⟨rfl, rfl⟩⟩⟩
  intro c hc
  simp only [List.mem_cons, List.not_mem_nil, or_false] at hc
  rcases hc with h | h | h | h <;> subst h <;> exact .inr ⟨_, rfl, rfl⟩

/-- `HostEventWithoutARuleIsInvalid`: unused codes at both ends, and the code of an event without a rule. -/
theorem test_witness_unusedCodes :
    (0 : BitVec 6) = 0 ∧ 34 ≤ (34 : BitVec 6).toNat ∧ 34 ≤ (63 : BitVec 6).toNat ∧
    (∀ code ∈ ([0, 34, 63] : List (BitVec 6)), ∀ ev : Event, ev.code = code →
      nextState exCfg.rules ev .disable = none) ∧
    ∀ ev : Event, ev.code = 10 → nextState exCfg.rules ev .disable = none := by
  refine ⟨rfl, by decide, by decide, ?_, ?_⟩
  · intro code hc ev
    simp only [List.mem_cons, List.not_mem_nil, or_false] at hc
    rcases hc with h | h | h <;> subst h <;> cases ev <;> decide
  · intro ev
    cases ev <;> decide

/-- `ResponseRowsRaiseTheEventOfTheirName`: every event of a response has a rule, and none has one.
`ResponseWithoutARuleIsLost`: none has one, under a well-formed table of one rule. -/
theorem test_witness_responseRules :
    ((Event.all.filter fun ev => !([.connect, .refresh, .badFrame].contains ev)).all fun ev =>
      (nextState allRules ev .disable).isSome &&
      nextState [badFrameRule] ev .start == none) = true := by decide +kernel

/-- `UnresolvedEscrowIsRejected`: a table without the code, no table, and no code byte; `reject` stored and not. -/
theorem test_witness_unresolved :
    nextState exCfg.rules .escrow .accepting = some .escrow ∧
    HasStored exCfg .reject [0xFC, 0x05, 0x43, 0xB0, 0x27] ∧
    templateLookup { exCfg with templates := [] } .reject = none ∧ tabLookup tab61 0x63 = none ∧
    State.reset.denomTab = none ∧ ([] : Bytes)[0]? = none := by
  refine ⟨by decide, rfl, rfl, by decide, rfl, rfl⟩

/-- `ResolvedEscrowIsPublished`. -/
theorem test_witness_resolved :
    nextState exCfg.rules .escrow .accepting = some .escrow ∧
    tabLookup tab61 0x61 = some (0x05, 0x02) := by decide

/-- `RejectingAndStackedCarryTheirFirstByte`, `DenominationTableIsWrittenOnce`, `VersionIsCachedOnce`. -/
theorem test_witness_dataRows :
    nextState exCfg.rules .rejecting .escrow = some .rejecting ∧
    nextState exCfg.rules .stacked .vendValid = some .stacked ∧
    nextState exCfg.rules .denominations .connected = some .denominations ∧
    nextState exCfg.rules .version .connected = some .version ∧ State.reset.denomTab = none ∧
    ({ State.reset with denomTab := some tab61 } : State).denomTab = some tab61 := by decide

/-- `PathRowsEmitTheirFields`: each of its four events. -/
theorem test_witness_pathRows :
    nextState allRules .currencypath .enable = some .currencyPath ∧
    nextState allRules .count .enable = some .count ∧
    nextState allRules .setCount .enable = some .setCount ∧
    nextState allRules .setCurrentCount .enable = some .setCurrentCount := by decide

/-- `NoiseIsDiscardedAndSyncIsHeld`, `NoiseBeforeAFrameIsDiscarded`. -/
theorem test_witness_noise :
    State.reset.rxBuf = [] ∧ (0xFB : Byte) ≠ 0xFC ∧ (0xFC : Byte) ∉ ([0x00, 0xFB, 0xFD] : Bytes) := by
  decide

/-- `ReceivingByteByByte`, `DeliverySplitsAnywhere`: the shortest and the longest buffers of INV_RX. -/
theorem test_witness_rxInv :
    rxInv [] = true ∧ rxInv [0xFC] = true ∧ rxInv [0xFC, 0x03] = true ∧
    rxInv (0xFC :: 0xFF :: List.replicate 252 0) = true := by decide +kernel

/-- `DeliveringAFrameRunsItsRow`: frames of every length byte at a boundary, and a notification. -/
theorem test_witness_frames :
    (isOneFrame [0xFC, 0x00] && isOneFrame [0xFC, 0x02] && isOneFrame [0xFC, 0x03, 0x00] &&
      isOneFrame [0xFC, 0x05, 0x11, 0x27, 0x56] &&
      isOneFrame (0xFC :: 0xFF :: List.replicate 253 0)) = true ∧
    ({ State.reset with inbox := [.rx [0xFC]] } : State).inbox = .rx [0xFC] :: [] := by decide +kernel

/-- `OneFrameIsParsedByLengthCrcOpcode`: length bytes 0, 2, 3 and 4, payloads of 0 and 250 bytes. -/
theorem test_witness_oneFrame :
    ((0 : Byte).toNat < 5 ∧ ([] : Bytes).length + 2 = max (0 : Byte).toNat 2) ∧
    ((2 : Byte).toNat < 5 ∧ ([] : Bytes).length + 2 = max (2 : Byte).toNat 2) ∧
    ((3 : Byte).toNat < 5 ∧ ([0] : Bytes).length + 2 = max (3 : Byte).toNat 2) ∧
    ((4 : Byte).toNat < 5 ∧ ([0, 0] : Bytes).length + 2 = max (4 : Byte).toNat 2) ∧
    ([] : Bytes).length ≤ 250 ∧ (List.replicate 250 0 : Bytes).length ≤ 250 := by decide +kernel

/-- `SerialReceiverRefinesTheBuffer`: registers in each of the three phases. -/
theorem test_witness_serial :
    (RxRegs.reset defaultCrc).holds defaultCrc [] ∧
    RxRegs.holds defaultCrc ⟨.len, 0, 1, [0xFC], 0⟩ [0xFC] ∧
    RxRegs.holds defaultCrc ⟨.body, 5, 3, [0xFC, 0x05, 0x11], 0xC7BC⟩ [0xFC, 0x05, 0x11] := by
  unfold RxRegs.holds
  decide +kernel

/-- `MutatedPayloadByteIsACrcMismatch`: the first and the last byte of a payload. -/
theorem test_witness_mutated :
    State.reset.rxBuf = [] ∧ State.reset.cfg.crc.poly.getLsbD 0 = true ∧
    ([0x61, 0x00] : Bytes).length ≤ 250 ∧ 0 < ([0x61, 0x00] : Bytes).length ∧
    ([0x61, 0x00] : Bytes)[0]? ≠ some 0x62 ∧ 1 < ([0x61, 0x00] : Bytes).length ∧
    ([0x61, 0x00] : Bytes)[1]? ≠ some 0x01 := by decide

/-- `StepRunsTheDecodedInstruction`: nothing arrived, a stimulus that decodes, and one for each refusal. -/
theorem test_witness_step :
    State.reset.inbox = [] ∧
    decodesTo State.reset.cfg (.strobe .opStuckFire) .opStuckFire = true ∧
    rejectedAs State.reset.cfg (.image []) .unknownImage = true ∧
    rejectedAs State.reset.cfg (.strobe .cmdAck) .notAnOperation = true := by decide +kernel

/-- `TableWordsDecodeAndRun`: a command's word and a frame's; length bytes 4, 5 and 255. -/
theorem test_witness_words :
    decodesTo State.reset.cfg (tableStimulus State.reset.cfg 24 0x1105FC) .cmdStatus = true ∧
    decodesTo State.reset.cfg (tableStimulus State.reset.cfg 24 0x1205FC) (.rspAccepting 0x12 []) = true ∧
    (4 : Byte).toNat < 5 ∧ 5 ≤ (5 : Byte).toNat ∧ 5 ≤ (255 : Byte).toNat := by
  decide +kernel

/-- `FrameOutPortShowsTheLastFrame`: payloads of 0 and 250 bytes, a byte at the first and the last index, the
first and the last state of R106. -/
theorem test_witness_port :
    (at_ exCfg .start).fsmState = .start ∧ (at_ exCfg .paused).fsmState = .paused ∧
    ([] : Bytes).length ≤ 250 ∧ (List.replicate 250 0xA2 : Bytes).length ≤ 250 ∧
    (List.replicate 250 0xA2 : Bytes)[(0 : Byte).toNat]? = some 0xA2 ∧
    (List.replicate 250 0xA2 : Bytes)[(249 : Byte).toNat]? = some 0xA2 := by decide +kernel

/-- `EveryStepKeepsTheInvariant`, `StepsOnlyAppendOutputsAndKeepParameters`: a state with every part of the
invariant at work, and a step from it. -/
theorem test_witness_invariant :
    let s : State := { at_ exCfg .accepting with
      rxBuf := [0xFC, 0x05, 0x11, 0x27], disableFlag := true, stuckArmed := true
      denomTab := some tab61, swVersion := some [0x56], inbox := [.rx [0x56]] }
    s.Inv ∧ ∃ s', step s = .next s' :=
  ⟨⟨by decide, by decide, by decide, by decide, by decide, by decide⟩, _, rfl⟩

/-- `OnlyTheNamedOperationsWriteEachRegister`: every clause has an instruction that writes. -/
theorem test_witness_writers :
    (after? (.opCrcByte 0xFC) State.reset (fun t => t.crcAcc != State.reset.crcAcc) &&
      after? .opStuckFire { at_ exCfg .stacking with stuckArmed := true } (fun t => t.stuckFired) &&
      after? .opFsmNew { State.reset with stuckFired := true } (fun t => !t.stuckFired) &&
      after? (.opRxByte 0xFC) State.reset (fun t => t.rxBuf != []) &&
      after? .opHostDisable State.reset (fun t => t.disableFlag) &&
      after? (.opHostEvent 4) State.reset (fun t => t.fsmState == .connected && t.frm == none) &&
      after? (.rspAck 0x50 []) State.reset (fun t => t.frm != none && t.fsmState == .start) &&
      after? .cmdStatus State.reset (fun t => t.fsmState == .start)) = true := by decide +kernel

/-- `CachesAreWrittenOnce`: both caches present and an instruction that would write each. -/
theorem test_witness_caches :
    let s : State := { at_ exCfg .connected with denomTab := some tab61, swVersion := some [0x56] }
    s.denomTab = some tab61 ∧ s.swVersion = some [0x56] ∧
    (∃ t, exec (.rspVersion 0x88 [0x57]) s = .next t) ∧
    Instr.rspVersion 0x88 [0x57] ≠ .opReset ∧ Instr.rspVersion 0x88 [0x57] ≠ .opSessionRefresh :=
  ⟨rfl, rfl, ⟨_, rfl⟩, by decide, by decide⟩

/-- `EncodedInstructionsDecodeBack`: a well-formed term of every constructor is in the four `test_encode_*`
lists; here a frame of the largest payload. -/
theorem test_witness_wellFormed :
    WellFormed testCfg (.rspEnable 0x11 (List.replicate 250 0)) = true := by decide +kernel

end Sys2Proof.Tests
end

/-! PROOFS. What the encoder writes decodes back (00_scope.md R10, 30_encoding.md R90 to R97,
42_rx_ingest.md R194 to R196): a command's image matches its template, a frame is its row, a strobe names
its operation. -/

namespace Sys2Proof

/-! ### Images: slots and trailer -/

/-- Writing a byte and cutting the trailer off commute. -/
theorem frameBody_set (bytes : Bytes) (i : Nat) (v : Byte) :
    frameBody (bytes.set i v) = (frameBody bytes).set i v := by
  simp [frameBody, List.take_set]

/-- Sealing replaces the trailer only (R94). -/
theorem frameBody_sealTrailer (c : CrcParams) (bytes : Bytes) :
    frameBody (sealTrailer c bytes) = frameBody bytes := by
  simp [frameBody, sealTrailer, trailerBytes]

theorem getD_sealTrailer (c : CrcParams) {bytes : Bytes} {i : Nat} (h : i + 2 < bytes.length) :
    (sealTrailer c bytes).getD i 0 = bytes.getD i 0 := by
  have hi : i < bytes.length - 2 := by omega
  have hi' : i < bytes.length := by omega
  simp [sealTrailer, frameBody, List.getElem?_append_left, hi, hi']

/-- The slots of a template, where it has any, are two positions before the trailer (R95, R150). -/
def Template.SlotsFit (t : Template) : Prop :=
  ∀ i j, t.slots = some (i, j) → i ≠ j ∧ i + 2 < t.bytes.length ∧ j + 2 < t.bytes.length

theorem length_commandImage (c : CrcParams) {t : Template} (h : t.SlotsFit) (p0 p1 : Byte) :
    (commandImage c t p0 p1).length = t.bytes.length := by
  unfold commandImage
  split
  · rfl
  next i j hs =>
    obtain ⟨-, hi, -⟩ := h i j hs
    rw [length_sealTrailer] <;> simp only [List.length_set]
    omega

/-- Patching the slots changes masked bytes only. -/
theorem maskedBody_commandImage (c : CrcParams) {t : Template} (h : t.SlotsFit) (p0 p1 : Byte) :
    maskedBody t (commandImage c t p0 p1) = maskedBody t t.bytes := by
  cases hs : t.slots with
  | none => simp only [maskedBody, commandImage, hs]
  | some slots =>
    obtain ⟨i, j⟩ := slots
    obtain ⟨hij, -, -⟩ := h i j hs
    simp only [maskedBody, commandImage, hs, frameBody_sealTrailer, frameBody_set]
    rw [List.set_comm _ _ hij.symm, List.set_set, List.set_set]

/-- The image of a command matches the command's own template. -/
theorem matchesTemplate_commandImage (c : CrcParams) {t : Template} (h : t.SlotsFit) (p0 p1 : Byte) :
    matchesTemplate t (commandImage c t p0 p1) = true := by
  simp [matchesTemplate, length_commandImage c h, maskedBody_commandImage c h]

/-- The parameters are read back from the slots they were written to. -/
theorem imageParams_commandImage (c : CrcParams) {t : Template} (h : t.SlotsFit)
    (hs : t.slots.isSome = true) (p0 p1 : Byte) :
    imageParams t (commandImage c t p0 p1) = (p0, p1) := by
  obtain ⟨⟨i, j⟩, hs⟩ := Option.isSome_iff_exists.1 hs
  obtain ⟨hij, hi, hj⟩ := h i j hs
  have hi' : i < t.bytes.length := by omega
  have hj' : j < t.bytes.length := by omega
  simp only [imageParams, commandImage, hs]
  rw [getD_sealTrailer, getD_sealTrailer] <;> simp [hij.symm, hi, hj, hi', hj']

/-! ### The first matching command -/

/-- What an instruction's well-formedness says of a command row. -/
theorem commandWf_cases {p : Params} {c : CmdName} {p0 p1 : Byte} (h : commandWf p c p0 p1 = true) :
    ∃ t, templateLookup p c = some t ∧ t.slots.isSome = c.parametric ∧ t.SlotsFit ∧
      ∀ c' ∈ c.before, commandMatches p (commandImage p.crc t p0 p1) c' = false := by
  unfold commandWf at h
  split at h
  · cases h
  next t ht =>
    simp only [Bool.and_eq_true, beq_iff_eq, List.all_eq_true, Bool.not_eq_true'] at h
    obtain ⟨⟨hshape, hslots⟩, hbefore⟩ := h
    refine ⟨t, ht, hshape, fun i j hs => ?_, hbefore⟩
    simpa [hs, and_assoc] using hslots

theorem CmdName.exists_all_eq_before_append (c : CmdName) :
    ∃ later, CmdName.all = c.before ++ c :: later := by
  cases c <;> exact ⟨_, rfl⟩

/-- A search by id finds a command that passes when none before it does (R97). -/
theorem CmdName.find?_all_eq_some {P : CmdName → Bool} {c : CmdName} (hc : P c = true)
    (hb : ∀ c' ∈ c.before, P c' = false) : CmdName.all.find? P = some c := by
  obtain ⟨later, hall⟩ := c.exists_all_eq_before_append
  refine List.find?_eq_some_iff_append.2 ⟨hc, c.before, later, hall, fun a ha => ?_⟩
  simp [hb a ha]

/-- A command without parameters does not read any (R96). -/
theorem commandInstr_of_not_parametric {c : CmdName} (h : c.parametric = false)
    (a b a' b' : Byte) : commandInstr c a b = commandInstr c a' b' := by
  cases c with
  | currencypath | setCount | setCurrentCount | payout => cases h
  | _ => rfl

theorem commandInstr_imageParams (c : CrcParams) {t : Template} {name : CmdName} (h : t.SlotsFit)
    (hs : t.slots.isSome = name.parametric) (p0 p1 : Byte) :
    commandInstr name (imageParams t (commandImage c t p0 p1)).1
      (imageParams t (commandImage c t p0 p1)).2 = commandInstr name p0 p1 := by
  cases hp : name.parametric with
  | false => exact commandInstr_of_not_parametric hp _ _ _ _
  | true => rw [imageParams_commandImage c h (hs.trans hp)]

/-- The image of a well-formed command decodes to the command with its parameters. -/
theorem decodeImage_commandImage {p : Params} {c : CmdName} {t : Template} {p0 p1 : Byte}
    (ht : templateLookup p c = some t) (hs : t.slots.isSome = c.parametric) (hfit : t.SlotsFit)
    (hb : ∀ c' ∈ c.before, commandMatches p (commandImage p.crc t p0 p1) c' = false) :
    decodeImage p (commandImage p.crc t p0 p1) = some (commandInstr c p0 p1) := by
  have hc : commandMatches p (commandImage p.crc t p0 p1) c = true := by
    simp [commandMatches, ht, hs, matchesTemplate_commandImage p.crc hfit]
  simp only [decodeImage, CmdName.find?_all_eq_some hc hb, ht, Option.map_some,
    commandInstr_imageParams p.crc hfit hs]

/-! ### Decoding what the encoder writes -/

/-- The encoder writes a stimulus for an instruction, and it decodes to the instruction. -/
def DecodesBack (p : Params) (i : Instr) : Prop :=
  ∃ st : Stimulus, encode p i = some st ∧ decode p [] st = .ok i

theorem decodesBack_command {p : Params} {i : Instr} (c : CmdName) {p0 p1 : Byte}
    (he : encode p i = (encodeCommand p c p0 p1).map .image) (hi : commandInstr c p0 p1 = i)
    (h : commandWf p c p0 p1 = true) : DecodesBack p i := by
  obtain ⟨t, ht, hs, hfit, hb⟩ := commandWf_cases h
  refine ⟨.image (commandImage p.crc t p0 p1), ?_, ?_⟩
  · simp [he, encodeCommand, ht, hs]
  · simp only [decode, decodeImage_commandImage ht hs hfit hb, hi]

/-- A notification that is exactly one frame decodes to the frame's row. -/
theorem decode_rx_of_isOneFrame {p : Params} {frame : Bytes} (h : isOneFrame frame = true) :
    decode p [] (.rx frame) = .ok (frameInstr p frame) := by
  simp [decode, h]

/-- A frame with its CRC decodes by its opcode alone (R196). -/
theorem frameInstr_frameOf (p : Params) (opcode : Byte) (payload : Bytes) :
    frameInstr p (frameOf p opcode payload) =
      (rspLookup p opcode).elim (.rspUnknown opcode payload)
        fun name => responseInstr p name opcode payload := by
  rw [frameInstr, classify_frameOf]
  cases rspLookup p opcode <;> rfl

theorem decodesBack_frameOf {p : Params} {i : Instr} {opcode : Byte} {payload : Bytes}
    (he : encode p i = some (.rx (frameOf p opcode payload))) (hl : payloadWf payload = true)
    (hi : frameInstr p (frameOf p opcode payload) = i) : DecodesBack p i := by
  have hone := isOneFrame_frameWith opcode payload (crc16 p.crc (frameHead opcode payload))
    (of_decide_eq_true hl)
  exact ⟨_, he, hi ▸ decode_rx_of_isOneFrame hone⟩

theorem decodesBack_response {p : Params} {i : Instr} (name : RspName) {opcode : Byte}
    {payload : Bytes} (he : encode p i = some (.rx (frameOf p opcode payload)))
    (hi : responseInstr p name opcode payload = i) (h : responseWf p name opcode payload = true) :
    DecodesBack p i := by
  obtain ⟨hl, hname⟩ : payloadWf payload = true ∧ rspLookup p opcode = some name := by
    simpa [responseWf] using h
  exact decodesBack_frameOf he hl (by simp [frameInstr_frameOf, hname, hi])

theorem decodesBack_path {p : Params} {i : Instr} (kind : Option Kind) {opcode : Byte}
    {payload : Bytes} (he : encode p i = some (.rx (frameOf p opcode payload)))
    (hi : pathInstr kind opcode payload = i) (h : pathWf p kind opcode payload = true) :
    DecodesBack p i := by
  obtain ⟨hwf, hkind⟩ : responseWf p .currencypath opcode payload = true ∧
      pathKind p payload = kind := by simpa [pathWf] using h
  exact decodesBack_response .currencypath he (by simp [responseInstr, hkind, hi]) hwf

theorem decodesBack_unknown {p : Params} {opcode : Byte} {payload : Bytes}
    (h : WellFormed p (.rspUnknown opcode payload) = true) :
    DecodesBack p (.rspUnknown opcode payload) := by
  obtain ⟨hl, hname⟩ : payloadWf payload = true ∧ rspLookup p opcode = none := by
    simpa [WellFormed] using h
  exact decodesBack_frameOf rfl hl (by simp [frameInstr_frameOf, hname])

theorem decodesBack_tooShort {p : Params} {len : Byte} {rest : Bytes}
    (h : WellFormed p (.rxTooShort len rest) = true) : DecodesBack p (.rxTooShort len rest) := by
  obtain ⟨hlen, hrest⟩ : len.toNat < Config.minFrame ∧ rest.length + 2 = frameSize len := by
    simpa [WellFormed] using h
  have hshort : (Config.sync :: len :: rest).length < Config.minFrame := by
    simp only [List.length_cons, hrest, frameSize, Config.minFrame] at hlen ⊢
    omega
  refine ⟨_, rfl, ?_⟩
  rw [decode_rx_of_isOneFrame (by simp [isOneFrame, hrest]), frameInstr, classify, if_pos hshort]
  rfl

theorem decodesBack_crcMismatch {p : Params} {opcode : Byte} {payload : Bytes} {trailer : Word}
    (h : WellFormed p (.rxCrcMismatch opcode payload trailer) = true) :
    DecodesBack p (.rxCrcMismatch opcode payload trailer) := by
  obtain ⟨hl, hcrc⟩ : payloadWf payload = true ∧
      crc16 p.crc (frameHead opcode payload) ≠ trailer := by simpa [WellFormed] using h
  have hlong : ¬(frameWith opcode payload trailer).length < Config.minFrame := by simp
  refine ⟨_, rfl, ?_⟩
  rw [decode_rx_of_isOneFrame (isOneFrame_frameWith _ _ _ (of_decide_eq_true hl)), frameInstr,
    classify, if_neg hlong, if_pos (by simpa using hcrc)]
  simp only [opcode_frameWith, framePayload_frameWith, frameTrailer_frameWith]

/-- An operation's strobe is the operation (R10). -/
theorem decodesBack_operation {p : Params} {i : Instr} (he : encode p i = some (.strobe i))
    (h : i.isOperation = true) : DecodesBack p i :=
  ⟨_, he, if_pos h⟩

/-- The rows by shape: commands, the path family, the frames without a response name, the other responses,
operations. -/
theorem decodesBack_of_wellFormed (p : Params) (i : Instr) (h : WellFormed p i = true) :
    DecodesBack p i := by
  cases i with
  | cmdStatus | cmdVersion | cmdDenominations | cmdAck | cmdReset | cmdStack | cmdReject
  | cmdInhibit | cmdUnInhibit | cmdEmergency | cmdCount | cmdCurrencypath | cmdSetCount
  | cmdSetCurrentCount | cmdPayout => exact decodesBack_command _ rfl rfl h
  | rspPathCurrencypath | rspPathCount | rspPathSetCount | rspPathSetCurrentCount
  | rspPathUnrecognised => exact decodesBack_path _ rfl rfl h
  | rspUnknown => exact decodesBack_unknown h
  | rxTooShort => exact decodesBack_tooShort h
  | rxCrcMismatch => exact decodesBack_crcMismatch h
  | rspEnable | rspAccepting | rspEscrow | rspStacking | rspVendValid | rspStacked | rspRejecting
  | rspReturning | rspDisable | rspInitialize | rspPowerUp | rspStackerFull | rspStackerOpen
  | rspAcceptorJam | rspStackerJam | rspPaused | rspCheated | rspFailure | rspComError
  | rspInvalidCommand | rspAck | rspVersion | rspDenominations | rspInhibit | rspPaying
  | rspPayStay | rspPayValid | rspRecyclerUnitFailure => exact decodesBack_response _ rfl rfl h
  | _ => exact decodesBack_operation rfl rfl

/-- Settles O59, by the kind of stimulus the encoder writes for the instruction. -/
theorem encodedInstructionsDecodeBack : Obligations.EncodedInstructionsDecodeBack :=
  decodesBack_of_wellFormed

end Sys2Proof

/-! PROOFS. What one step does (00_scope.md R9, R10), what every operation keeps (10_state.md R32,
20_memory.md R68), and what the ports show (R11, 20_memory.md R60, 30_encoding.md R106 to R113). -/

namespace Sys2Proof.Machine

/-! ### One step -/

/-- With nothing arrived the block is idle (R384). -/
theorem step_of_inbox_nil {s : State} (h : s.inbox = []) : step s = .next s := by
  simp only [step, h]

/-- A stimulus that decodes is executed on the state without it. -/
theorem step_of_decode_ok {s : State} {st : Stimulus} {rest : List Stimulus} {i : Instr}
    (h : s.inbox = st :: rest) (hd : decode s.cfg s.rxBuf st = .ok i) :
    step s = exec i (s.setInbox rest) := by
  simp only [step, h, hd]

theorem step_of_decode_error {s : State} {st : Stimulus} {rest : List Stimulus} {r : Reject}
    (h : s.inbox = st :: rest) (hd : decode s.cfg s.rxBuf st = .error r) :
    step s = .refused (refusalOf r) := by
  simp only [step, h, hd]

/-- Everything a step can do: idle, execute one instruction, or refuse the first stimulus. -/
theorem step_cases (s : State) :
    step s = .next s ∨ (∃ i rest, step s = exec i (s.setInbox rest)) ∨ ∃ r, step s = .refused r := by
  cases h : s.inbox with
  | nil => exact .inl (step_of_inbox_nil h)
  | cons st rest =>
    cases hd : decode s.cfg s.rxBuf st with
    | ok i => exact .inr (.inl ⟨i, rest, step_of_decode_ok h hd⟩)
    | error r => exact .inr (.inr ⟨_, step_of_decode_error h hd⟩)

/-- Settles O52, by the three cases of a step. -/
theorem stepRunsTheDecodedInstruction : Obligations.StepRunsTheDecodedInstruction :=
  fun _ => ⟨step_of_inbox_nil, fun _ _ h =>
    ⟨fun _ => step_of_decode_ok h, fun _ => step_of_decode_error h⟩⟩

/-! ### Outputs are only appended, parameters stay -/

/-- One state comes from another by an operation that writes no parameter (R32, R68) and takes back no
output (the log, row 3). -/
def Extends (s t : State) : Prop := t.cfg = s.cfg ∧ s.out <+: t.out

theorem Extends.refl (s : State) : Extends s s := ⟨rfl, ⟨[], List.append_nil _⟩⟩

theorem Extends.of_out_eq {s t : State} (hc : t.cfg = s.cfg) (ho : t.out = s.out) : Extends s t :=
  ⟨hc, ⟨[], by rw [ho, List.append_nil]⟩⟩

theorem Extends.of_out_append {s t : State} {l : List Output} (hc : t.cfg = s.cfg)
    (ho : t.out = s.out ++ l) : Extends s t := ⟨hc, l, ho.symm⟩

theorem Extends.trans {s t u : State} (h : Extends s t) (h' : Extends t u) : Extends s u :=
  ⟨h'.1.trans h.1, h.2.trans h'.2⟩

theorem extends_push (s : State) (o : List Output) : Extends s (s.push o) := .of_out_append rfl rfl

theorem Extends.push {s t : State} (h : Extends s t) (o : List Output) : Extends s (t.push o) :=
  h.trans (extends_push t o)

/-- A chain of operations extends the outputs when each operation does. -/
theorem extends_foldl {α : Type} {f : State → α → State} (hf : ∀ s a, Extends s (f s a))
    (l : List α) (s : State) : Extends s (l.foldl f s) := by
  induction l generalizing s with
  | nil => exact .refl s
  | cons a l ih => exact (hf s a).trans (ih (f s a))

theorem extends_txEncode (c : CmdName) (p0 p1 : Option Byte) (s : State) :
    Extends s (txEncode c p0 p1 s) := by
  rcases txEncode_out c p0 p1 s with h | ⟨_, h⟩ <;> exact .of_out_append (by simp) h

theorem extends_txEncodeId (id : BitVec 4) (p0 p1 : Byte) (s : State) :
    Extends s (txEncodeId id p0 p1 s) := by
  unfold txEncodeId
  split
  · exact extends_push _ _
  · exact extends_txEncode _ _ _ _

theorem extends_fsmEvent (ev : Event) (data : EventData) (s : State) :
    Extends s (fsmEvent ev data s).1 := by
  rcases fsmEvent_cases ev data s with ⟨_, h⟩ | ⟨t, _, h⟩ <;> rw [h]
  · exact extends_push _ _
  · exact .of_out_append (transition_cfg t s) (transition_out t s)

theorem extends_populate (entries : List DenomEntry) (s : State) : Extends s (populate entries s) :=
  .of_out_eq (populate_cfg entries s) (populate_out entries s)

theorem extends_cacheVersion (text : Bytes) (s : State) : Extends s (cacheVersion text s) :=
  .of_out_eq (cacheVersion_cfg text s) (cacheVersion_out text s)

theorem extends_afterEmit (s : State) (e : DomainEvent) : Extends s (afterEmit s e) := by
  unfold afterEmit
  split
  · exact extends_txEncode _ _ _ _
  · exact (extends_populate _ s).push _
  · exact (extends_cacheVersion _ s).push _
  · exact extends_push _ _

theorem extends_after (r : Reaction) (s : State) : Extends s (after r s) :=
  (extends_foldl extends_afterEmit r.emits s).trans
    (extends_foldl (fun t c => extends_txEncode c none none t) r.dispatches _)

theorem extends_react (ev : Event) (data : EventData) (s : State) : Extends s (react ev data s) :=
  (extends_fsmEvent ev data s).trans (extends_after _ _)

theorem extends_handle (o : FrameOutcome) (s : State) : Extends s (handle o s) := by
  unfold handle
  split
  · split
    · exact extends_push _ _
    · exact (extends_push _ _).trans (extends_react _ _ _)
  · exact (extends_push _ _).trans (extends_react _ _ _)
  · exact extends_push _ _

theorem extends_record (s : State) (o : FrameOutcome) : Extends s (record s o) :=
  .of_out_append (record_cfg s o) (record_out s o)

theorem extends_receive (s : State) (o : FrameOutcome) : Extends s (receive s o) :=
  (extends_record s o).trans (extends_handle o _)

theorem extends_rxChunk (chunk : Bytes) (s : State) : Extends s (rxChunk chunk s) :=
  .of_out_append (rxChunk_cfg chunk s) (rxChunk_out chunk s)

theorem extends_ingested (s : State) (chunk : Bytes) : Extends s (ingested s chunk) := .of_out_eq rfl rfl

theorem extends_rxDeliver (chunk : Bytes) (s : State) : Extends s (rxDeliver chunk s) :=
  extends_foldl
    (fun t b => (extends_ingested t [b]).trans (extends_foldl extends_receive _ _)) chunk s

theorem extends_hostEventCode (code : BitVec 6) (s : State) : Extends s (hostEventCode code s) := by
  unfold hostEventCode
  split
  · exact (extends_react _ _ s).push _
  · exact (extends_push s _).push _

theorem extends_hostDisable (s : State) : Extends s (hostDisable s) := by
  unfold hostDisable
  split
  · exact .refl s
  · exact extends_txEncode _ _ _ s
  · exact .of_out_eq rfl rfl

theorem extends_stuckFire (s : State) : Extends s (stuckFire s) := by
  unfold stuckFire
  split
  · exact .of_out_append rfl rfl
  · exact .refl s

/-- Every instruction has a next state, which keeps the parameters and the outputs so far (R10, R368). -/
theorem exec_extends (i : Instr) (s : State) : ∃ t, exec i s = .next t ∧ Extends s t := by
  cases i with
  | cmdStatus | cmdVersion | cmdDenominations | cmdAck | cmdReset | cmdStack | cmdReject
  | cmdInhibit | cmdUnInhibit | cmdEmergency | cmdCount | cmdCurrencypath | cmdSetCount
  | cmdSetCurrentCount | cmdPayout | opHostEnable | opHostStack | opHostReject | opHostEmergency
  | opHostCount | opHostCurrencypath | opHostSetcount | opHostSetcurrentcount | opHostPayout
  | opHostStatus | opHostVersion => exact ⟨_, rfl, extends_txEncode _ _ _ s⟩
  | opReset | opCrcClear | opCrcByte | opFsmNew | opSessionRefresh =>
    exact ⟨_, rfl, .of_out_eq rfl rfl⟩
  | opCrcRead => exact ⟨_, rfl, extends_push s _⟩
  | opTxEncode id p0 p1 => exact ⟨_, rfl, extends_txEncodeId id p0 p1 s⟩
  | opRxChunk chunk => exact ⟨_, rfl, extends_rxChunk chunk s⟩
  | opRxByte b => exact ⟨_, rfl, extends_rxChunk [b] s⟩
  | opFsmEvent ev data => exact ⟨_, rfl, (extends_fsmEvent ev data s).push _⟩
  | opStuckFire => exact ⟨_, rfl, extends_stuckFire s⟩
  | opRxDeliver chunk => exact ⟨_, rfl, extends_rxDeliver chunk s⟩
  | opHostEvent code => exact ⟨_, rfl, extends_hostEventCode code s⟩
  | opHostDisable => exact ⟨_, rfl, extends_hostDisable s⟩
  | _ => exact ⟨_, rfl, extends_receive s _⟩

/-- Settles O56: a step is idle, refuses, or executes an instruction, which extends the outputs. -/
theorem stepsOnlyAppendOutputsAndKeepParameters :
    Obligations.StepsOnlyAppendOutputsAndKeepParameters := by
  intro s
  refine ⟨fun s' h => ?_, fun f => nomatch f⟩
  rcases step_cases s with hs | ⟨i, rest, hs⟩ | ⟨r, hs⟩ <;> rw [hs] at h
  · cases h
    exact Extends.refl s
  · obtain ⟨t, ht, hext⟩ := exec_extends i (s.setInbox rest)
    cases ht.symm.trans h
    exact hext
  · cases h

/-! ### The frame-out port -/

/-- The instruction is the row of a decoded response, of a name with the given code (R110). -/
def ReceivesDecoded (i : Instr) (s : State) (opcode : Byte) (payload : Bytes) (code : BitVec 5) :
    Prop :=
  ∃ name override data,
    exec i s = .next (receive s (.decoded name override data opcode payload)) ∧ name.code = code

/-- What the port shows of a frame that has an opcode and a payload (R11, R60). -/
theorem port_of_opcode {u : State} {o : FrameOutcome} {opcode : Byte} (h : u.frm = some o)
    (hop : o.opcode? = some opcode) (hs : o.status ≠ 1) (hl : o.payload.length ≤ 250) :
    u.frmStatus = o.status ∧ u.frmOpcode = opcode ∧ u.frmLen.toNat = o.payload.length ∧
      ∀ idx b : Byte, o.payload[idx.toNat]? = some b → u.frmRead idx = b :=
  ⟨State.frmStatus_of_some h, State.frmOpcode_of_opcode h hop, State.frmLen_toNat h hs hl,
    fun _ _ => State.frmRead_of_payload h⟩

theorem ReceivesDecoded.port {i : Instr} {s : State} {opcode : Byte} {payload : Bytes}
    {code : BitVec 5} (h : ReceivesDecoded i s opcode payload code) (hl : payload.length ≤ 250) :
    ∃ u : State, exec i s = .next u ∧ u.frmStatus = 0 ∧ u.frmOpcode = opcode ∧ u.frmName = code ∧
      u.frmLen.toNat = payload.length ∧
      ∀ idx b : Byte, payload[idx.toNat]? = some b → u.frmRead idx = b := by
  obtain ⟨name, override, data, hexec, hcode⟩ := h
  have hfrm := receive_frm s (.decoded name override data opcode payload)
  obtain ⟨hstatus, hopcode, hlen, hread⟩ :=
    port_of_opcode hfrm (opcode := opcode) rfl (by simp [FrameOutcome.status]) hl
  exact ⟨_, hexec, hstatus, hopcode, State.frmName_of_name hfrm (congrArg some hcode), hlen, hread⟩

theorem port_of_unknown {opcode : Byte} {payload : Bytes} (s : State) (hl : payload.length ≤ 250) :
    ∃ u : State, exec (.rspUnknown opcode payload) s = .next u ∧ u.frmStatus = 2 ∧
      u.frmOpcode = opcode ∧ u.frmLen.toNat = payload.length ∧
      ∀ idx b : Byte, payload[idx.toNat]? = some b → u.frmRead idx = b :=
  ⟨_, rfl, port_of_opcode (receive_frm s (.unknownResponse opcode payload)) rfl
    (by simp [FrameOutcome.status]) hl⟩

theorem port_of_malformed {i : Instr} {s : State} {r : MalformedReason}
    (h : exec i s = .next (receive s (.malformed r))) :
    ∃ u : State, exec i s = .next u ∧ u.frmStatus = 1 ∧ u.frmLen.toNat ≤ 250 :=
  have hfrm := receive_frm s (.malformed r)
  ⟨_, h, State.frmStatus_of_some hfrm, State.frmLen_le_of_malformed hfrm⟩

theorem port_of_reset (s : State) : ∃ u : State, exec .opReset s = .next u ∧ u.frmStatus = 0 ∧
    u.frmOpcode = 0 ∧ u.frmName = 0 ∧ u.frmLen = 0 ∧ ∀ idx : Byte, u.frmRead idx = 0 :=
  have hfrm : (resetAll s).frm = none := rfl
  ⟨_, rfl, State.frmStatus_of_none hfrm, State.frmOpcode_of_none hfrm, State.frmName_of_none hfrm,
    State.frmLen_of_none hfrm, State.frmRead_of_none hfrm⟩

/-- The `fsm_state` port shows the code of the state, for every table of codes that is right (R106). -/
theorem fsmPort_of_code {l : List (StateName × BitVec 6)} (hl : ∀ r ∈ l, r.1.code = r.2) :
    ∀ r ∈ l, ∀ s : State, s.fsmState = r.1 → s.fsmPort = r.2 :=
  fun r hr s hs => by rw [State.fsmPort, hs, hl r hr]

/-- Settles O60: each received-frame row leaves its outcome in the frame-out register, which the port
shows; the code tables hold row by row. -/
theorem frameOutPortShowsTheLastFrame : Obligations.FrameOutPortShowsTheLastFrame := by
  refine ⟨fun opcode payload hl s => ⟨fun r hr => ReceivesDecoded.port ?_ hl, port_of_unknown s hl⟩,
    ?_, port_of_reset, fun _ => rfl, fsmPort_of_code (by decide), by decide, ?_, ?_, rfl, rfl⟩
  · revert r
    simp only [List.forall_mem_cons, List.not_mem_nil, false_imp_iff, implies_true, and_true]
    and_intros <;> exact ⟨_, _, _, rfl, rfl⟩
  · intro len opcode rest payload trailer s
    simp only [List.forall_mem_cons, List.not_mem_nil, false_imp_iff, implies_true, and_true]
    exact ⟨port_of_malformed rfl, port_of_malformed rfl⟩
  · intro entries text reason code den d
    simp [DomainEvent.code]
  · intro id opcode payload ev st
    simp [Output.outcomeCode?]

end Sys2Proof.Machine

/-! PROOFS. What holds between operations (10_state.md R20 to R36): reception and the glue as a chain of
writes, the effect of every instruction, and from these the invariant (R23, R27, R28, R30, R31), the writers
of each register and the write-once caches. -/

namespace Sys2Proof.Machine

/-! ### Operations that write outputs only -/

/-- Two states differ in nothing but appended outputs and used free bytes. -/
def OutputsOnly (s t : State) : Prop := ∃ o n, t = (s.push o).setFree n

theorem outputsOnly_push (s : State) (o : List Output) : OutputsOnly s (s.push o) :=
  ⟨o, s.freeCount, rfl⟩

theorem OutputsOnly.refl (s : State) : OutputsOnly s s := by
  simpa using outputsOnly_push s []

theorem outputsOnly_txEncode (c : CmdName) (p0 p1 : Option Byte) (s : State) :
    OutputsOnly s (txEncode c p0 p1 s) := by
  unfold txEncode
  split
  · exact outputsOnly_push s _
  · dsimp only
    split
    · exact ⟨_, _, rfl⟩
    · exact outputsOnly_push s _

theorem outputsOnly_txEncodeId (id : BitVec 4) (p0 p1 : Byte) (s : State) :
    OutputsOnly s (txEncodeId id p0 p1 s) := by
  unfold txEncodeId
  split
  · exact outputsOnly_push s _
  · exact outputsOnly_txEncode _ _ _ s

/-! ### Reception and the glue as a chain of writes -/

/-- One write of reception or the glue: outputs, the frame-out register, the receive buffer after a chunk, a
transition (R266), or a cache filled from event data that satisfy `D` (R336, R337). -/
inductive GlueWrite (D : EventData → Prop) (s : State) : State → Prop
  | outputs {t : State} (h : OutputsOnly s t) : GlueWrite D s t
  | frame (o : FrameOutcome) : GlueWrite D s (s.setFrm (some o))
  | ingest (chunk : Bytes) : GlueWrite D s (ingested s chunk)
  | transition (t : StateName) : GlueWrite D s (transition t s)
  | table {entries : List DenomEntry} (h : D (.denoms entries)) : GlueWrite D s (populate entries s)
  | version {text : Bytes} (h : D (.version text)) : GlueWrite D s (cacheVersion text s)

/-- Writes of reception and the glue, one after the other. -/
abbrev GlueWrites (D : EventData → Prop) : State → State → Prop :=
  Relation.ReflTransGen (GlueWrite D)

/-- What each write keeps, a chain of writes keeps. -/
theorem GlueWrites.keeps {D : EventData → Prop} {P : State → Prop} {s t : State}
    (h : GlueWrites D s t) (hP : ∀ {u v}, GlueWrite D u v → P u → P v) (hs : P s) : P t := by
  induction h with
  | refl => exact hs
  | tail _ hw ih => exact hP hw ih

/-- The data a frame outcome carries; the glue treats a malformed frame with `NoData` (R333). -/
def FrameOutcome.data : FrameOutcome → EventData
  | .decoded _ _ data _ _ => data
  | _ => .noData

/-- What an emit would store in a cache comes from data that satisfy `D`. -/
def DomainEvent.Stores (D : EventData → Prop) : DomainEvent → Prop
  | .denominations (some entries) => D (.denoms entries)
  | .version (some text) => D (.version text)
  | _ => True

section Chains

variable {D : EventData → Prop}

theorem glueWrites_push (s : State) (o : List Output) : GlueWrites D s (s.push o) :=
  .single (.outputs (outputsOnly_push s o))

theorem glueWrites_txEncode (c : CmdName) (p0 p1 : Option Byte) (s : State) :
    GlueWrites D s (txEncode c p0 p1 s) :=
  .single (.outputs (outputsOnly_txEncode c p0 p1 s))

theorem glueWrites_foldl {α : Type} {f : State → α → State} {l : List α}
    (hf : ∀ a ∈ l, ∀ s, GlueWrites D s (f s a)) (s : State) : GlueWrites D s (l.foldl f s) := by
  induction l generalizing s with
  | nil => exact .refl
  | cons a l ih =>
    obtain ⟨ha, hl⟩ := List.forall_mem_cons.1 hf
    exact (ha s).trans (ih hl _)

theorem glueWrites_afterEmit {e : DomainEvent} (h : e.Stores D) (s : State) :
    GlueWrites D s (afterEmit s e) := by
  unfold afterEmit
  split
  · exact glueWrites_txEncode _ _ _ s
  · exact .head (.table h) (glueWrites_push _ _)
  · exact .head (.version h) (glueWrites_push _ _)
  · exact glueWrites_push s _

theorem glueWrites_after {r : Reaction} (h : ∀ e ∈ r.emits, e.Stores D) (s : State) :
    GlueWrites D s (after r s) :=
  (glueWrites_foldl (fun e he t => glueWrites_afterEmit (h e he) t) s).trans
    (glueWrites_foldl (fun c _ t => glueWrites_txEncode c none none t) _)

theorem exitEmits_stores (src : StateName) : ∀ e ∈ exitEmits src, e.Stores D := by
  unfold exitEmits
  split <;> simp [DomainEvent.Stores]

/-- Only the hooks of Denominations and Version emit what a cache stores, and they emit the event's data
(R274, R275). -/
theorem entryEmits_stores {data : EventData} (h : D data) (t src : StateName) :
    ∀ e ∈ entryEmits t src data, e.Stores D := by
  cases t with
  | denominations | version =>
    cases data <;> simp_all [entryEmits, dataEntries, dataText, DomainEvent.Stores]
  | rejecting | escrow | stacked =>
    cases data <;> simp [entryEmits, dataRejected, dataRead, dataStacked, DomainEvent.Stores]
  | disable | vendValid =>
    simp only [entryEmits]
    split <;> simp [DomainEvent.Stores]
  | _ => simp [entryEmits, DomainEvent.Stores]

theorem glueWrites_react {data : EventData} (h : D data) (ev : Event) (s : State) :
    GlueWrites D s (react ev data s) := by
  unfold react
  cases hn : nextState s.cfg.rules ev s.fsmState with
  | none =>
    rw [fsmEvent_none data hn]
    exact glueWrites_push s _
  | some t =>
    rw [fsmEvent_some data hn]
    refine .head (.transition t) (glueWrites_after (fun e he => ?_) _)
    exact (List.mem_append.1 he).elim (exitEmits_stores s.fsmState e) (entryEmits_stores h t _ e)

theorem glueWrites_handle {o : FrameOutcome} (h : D o.data) (s : State) :
    GlueWrites D s (handle o s) := by
  unfold handle
  split
  · split
    · exact glueWrites_push s _
    · exact (glueWrites_push s _).trans (glueWrites_react h _ _)
  · exact (glueWrites_push s _).trans (glueWrites_react h _ _)
  · exact glueWrites_push s _

theorem glueWrites_receive {o : FrameOutcome} (h : D o.data) (s : State) :
    GlueWrites D s (receive s o) :=
  .head (.frame o) ((glueWrites_push _ _).trans (glueWrites_handle h _))

end Chains

end Sys2Proof.Machine

namespace Sys2Proof

/-- Every frame the parser slices off fits the length byte (R191). -/
theorem length_le_of_mem_ingestLoop {fuel : Nat} {buf frame : Bytes}
    (h : frame ∈ (ingestLoop fuel buf).1) : frame.length ≤ Config.rxCap := by
  induction fuel generalizing buf with
  | zero => simp [ingestLoop] at h
  | succ n ih =>
    rcases ingest_round buf with h1 | ⟨len, h1, hl⟩ | ⟨len, h1, hl⟩
    · simp [ingestLoop_wait h1] at h
    · simp [ingestLoop_partial h1 hl] at h
    · rw [ingestLoop_take h1 hl] at h
      rcases List.mem_cons.1 h with rfl | h
      · have := len.isLt
        simp only [List.length_take, frameSize, Config.rxCap]
        omega
      · exact ih h

/-- A notification that is one delimited frame fits the length byte (R90). -/
theorem length_le_of_isOneFrame {frame : Bytes} (h : isOneFrame frame = true) :
    frame.length ≤ Config.rxCap := by
  unfold isOneFrame at h
  split at h
  next sync len rest =>
    have hlen := len.isLt
    simp only [Bool.and_eq_true, beq_iff_eq, frameSize] at h
    simp only [List.length_cons, Config.rxCap]
    omega
  · cases h

theorem length_framePayload_le {frame : Bytes} (h : frame.length ≤ Config.rxCap) :
    (framePayload frame).length ≤ Config.maxPayload := by
  simp only [framePayload, List.length_drop, List.length_take, Config.rxCap, Config.maxPayload] at *
  omega

theorem payload_of_classify_response {p : Params} {frame payload : Bytes} {name : RspName}
    {opcode : Byte} (h : classify p frame = .response name opcode payload) :
    payload = framePayload frame := by
  unfold classify at h
  split at h
  · cases h
  · split at h
    · cases h
    · dsimp only at h
      split at h <;> cases h
      rfl

end Sys2Proof

namespace Sys2Proof.Machine

/-- `D` holds of `NoData` and of the data of every frame that fits the length byte. -/
structure HoldsOfFrames (D : EventData → Prop) : Prop where
  noData : D .noData
  parsed (p : Params) (tab : Option DenomTab) (frame : Bytes) (h : frame.length ≤ Config.rxCap) :
    D (parseFrame p tab frame).data

theorem glueWrites_rxChunk {D : EventData → Prop} (chunk : Bytes) (s : State) :
    GlueWrites D s (rxChunk chunk s) :=
  .head (.ingest chunk) (glueWrites_foldl (fun o _ _ => .head (.frame o) (glueWrites_push _ _)) _)

theorem glueWrites_rxDeliver {D : EventData → Prop} (hD : HoldsOfFrames D) (chunk : Bytes) (s : State) :
    GlueWrites D s (rxDeliver chunk s) := by
  refine glueWrites_foldl (fun b _ t => .head (.ingest [b]) (glueWrites_foldl ?_ _)) s
  intro o ho
  obtain ⟨frame, hframe, rfl⟩ := List.mem_map.1 ho
  exact glueWrites_receive (hD.parsed _ _ _ (length_le_of_mem_ingestLoop hframe))

/-! ### What every instruction does -/

/-- The operations that write registers without reception or the glue: those of the CRC unit, the deferred
disable, the timer's expiry, the session operations. -/
inductive ControlEffect (s : State) : Instr → State → Prop
  | crcClear : ControlEffect s .opCrcClear (s.setCrc s.cfg.crc.init)
  | crcByte (b : Byte) : ControlEffect s (.opCrcByte b) (s.setCrc (crcStep s.cfg.crc s.crcAcc b))
  | hostDisable (he : s.fsmState ≠ .enable) (hd : s.fsmState ≠ .disable) :
      ControlEffect s .opHostDisable (s.setDisable true)
  | stuckFire (out : List Output) :
      ControlEffect s .opStuckFire (((s.setArmed false).setFired true).push out)
  | fsmNew : ControlEffect s .opFsmNew (fsmNew s)
  | sessionRefresh : ControlEffect s .opSessionRefresh (sessionRefresh s)
  | reset : ControlEffect s .opReset (resetAll s)

/-- Everything an instruction can do, by the kind of instruction. A frame without an event is recorded and
reported, nothing else (R196, R332). -/
inductive Effect (s : State) : Instr → State → Prop
  | outputs (i : Instr) {t : State} (h : OutputsOnly s t) : Effect s i t
  | eventlessFrame {i : Instr} (hi : isFrameRow i = true) (o : FrameOutcome) (out : List Output) :
      Effect s i ((record s o).push out)
  | frame {i : Instr} (hi : isFrameRow i = true)
      (hne : ∀ opcode payload, i ≠ .rspAck opcode payload ∧ i ≠ .rspInhibit opcode payload ∧
        i ≠ .rspUnknown opcode payload) (o : FrameOutcome) : Effect s i (receive s o)
  | rxChunk (chunk : Bytes) : Effect s (.opRxChunk chunk) (rxChunk chunk s)
  | rxByte (b : Byte) : Effect s (.opRxByte b) (Machine.rxChunk [b] s)
  | rxDeliver (chunk : Bytes) : Effect s (.opRxDeliver chunk) (rxDeliver chunk s)
  | fsmEvent (ev : Event) (data : EventData) (t : StateName) (out : List Output) :
      Effect s (.opFsmEvent ev data) ((transition t s).push out)
  | hostEvent (code : BitVec 6) (ev : Event) (out : List Output) :
      Effect s (.opHostEvent code) ((react ev .noData s).push out)
  | control {i : Instr} {t : State} (h : ControlEffect s i t) : Effect s i t

theorem effect_fsmEvent (ev : Event) (data : EventData) (s : State) (out : List Output) :
    Effect s (.opFsmEvent ev data) ((Machine.fsmEvent ev data s).1.push out) := by
  rcases fsmEvent_cases ev data s with ⟨_, h⟩ | ⟨t, _, h⟩ <;> rw [h]
  · rw [State.push_push]
    exact .outputs _ (outputsOnly_push s _)
  · exact .fsmEvent ev data t out

theorem effect_hostEventCode (code : BitVec 6) (s : State) :
    Effect s (.opHostEvent code) (hostEventCode code s) := by
  unfold hostEventCode
  split
  · exact .hostEvent code _ _
  · exact .outputs _ ⟨_, s.freeCount, State.push_push s _ _⟩

theorem effect_hostDisable (s : State) : Effect s .opHostDisable (Machine.hostDisable s) := by
  unfold Machine.hostDisable
  split
  · exact .outputs _ (.refl s)
  · exact .outputs _ (outputsOnly_txEncode _ _ _ s)
  next hd he => exact .control (.hostDisable he hd)

theorem effect_stuckFire (s : State) : Effect s .opStuckFire (Machine.stuckFire s) := by
  unfold Machine.stuckFire
  split
  · exact .control (.stuckFire _)
  · exact .outputs _ (.refl s)

/-- The next state of an instruction is one its effect allows. -/
theorem exec_effect (i : Instr) (s : State) : ∃ t, exec i s = .next t ∧ Effect s i t := by
  cases i with
  | cmdStatus | cmdVersion | cmdDenominations | cmdAck | cmdReset | cmdStack | cmdReject
  | cmdInhibit | cmdUnInhibit | cmdEmergency | cmdCount | cmdCurrencypath | cmdSetCount
  | cmdSetCurrentCount | cmdPayout | opHostEnable | opHostStack | opHostReject | opHostEmergency
  | opHostCount | opHostCurrencypath | opHostSetcount | opHostSetcurrentcount | opHostPayout
  | opHostStatus | opHostVersion => exact ⟨_, rfl, .outputs _ (outputsOnly_txEncode _ _ _ s)⟩
  | opTxEncode id p0 p1 => exact ⟨_, rfl, .outputs _ (outputsOnly_txEncodeId id p0 p1 s)⟩
  | opCrcRead => exact ⟨_, rfl, .outputs _ (outputsOnly_push s _)⟩
  | opCrcClear => exact ⟨_, rfl, .control .crcClear⟩
  | opCrcByte b => exact ⟨_, rfl, .control (.crcByte b)⟩
  | opRxChunk chunk => exact ⟨_, rfl, .rxChunk chunk⟩
  | opRxByte b => exact ⟨_, rfl, .rxByte b⟩
  | opRxDeliver chunk => exact ⟨_, rfl, .rxDeliver chunk⟩
  | opFsmEvent ev data => exact ⟨_, rfl, effect_fsmEvent ev data s _⟩
  | opHostEvent code => exact ⟨_, rfl, effect_hostEventCode code s⟩
  | opHostDisable => exact ⟨_, rfl, effect_hostDisable s⟩
  | opStuckFire => exact ⟨_, rfl, effect_stuckFire s⟩
  | opFsmNew => exact ⟨_, rfl, .control .fsmNew⟩
  | opSessionRefresh => exact ⟨_, rfl, .control .sessionRefresh⟩
  | opReset => exact ⟨_, rfl, .control .reset⟩
  | rspAck | rspInhibit | rspUnknown => exact ⟨_, rfl, .eventlessFrame rfl _ _⟩
  | _ => exact ⟨_, rfl, .frame rfl (fun _ _ => by simp) _⟩

theorem effect_of_exec {i : Instr} {s t : State} (h : exec i s = .next t) : Effect s i t := by
  obtain ⟨u, hu, heff⟩ := exec_effect i s
  cases hu.symm.trans h
  exact heff

/-- An instruction writes registers directly, or is a chain of writes of reception and the glue, whose data
satisfy `D` when those of its frame do. -/
theorem Effect.glueWrites_or_control {D : EventData → Prop} (hD : HoldsOfFrames D) {i : Instr}
    {s t : State} (h : Effect s i t) (hi : isFrameRow i = true → ∀ data, D data) :
    GlueWrites D s t ∨ ControlEffect s i t := by
  cases h with
  | outputs _ ho => exact .inl (.single (.outputs ho))
  | eventlessFrame _ o out =>
    exact .inl (.head (.frame o) ((glueWrites_push _ _).trans (glueWrites_push _ _)))
  | frame hf _ o => exact .inl (glueWrites_receive (hi hf _) s)
  | rxChunk chunk => exact .inl (glueWrites_rxChunk chunk s)
  | rxByte b => exact .inl (glueWrites_rxChunk [b] s)
  | rxDeliver chunk => exact .inl (glueWrites_rxDeliver hD chunk s)
  | fsmEvent _ _ t out => exact .inl (.head (.transition t) (glueWrites_push _ out))
  | hostEvent _ ev out => exact .inl ((glueWrites_react hD.noData ev s).trans (glueWrites_push _ out))
  | control hc => exact .inr hc

/-- With no condition on the data, every instruction that is not a control operation is a chain of writes. -/
theorem glueWrites_or_control_of_exec {i : Instr} {s t : State} (h : exec i s = .next t) :
    GlueWrites (fun _ => True) s t ∨ ControlEffect s i t :=
  (effect_of_exec h).glueWrites_or_control ⟨trivial, fun _ _ _ _ => trivial⟩ fun _ _ => trivial

/-! ### The caches are written once -/

/-- A write of the glue keeps a populated denomination table (R336). -/
theorem GlueWrite.denomTab_some {D : EventData → Prop} {s t : State} {m : DenomTab}
    (hw : GlueWrite D s t) (h : s.denomTab = some m) : t.denomTab = some m := by
  cases hw with
  | outputs ho =>
    obtain ⟨o, n, rfl⟩ := ho
    exact h
  | frame | ingest => exact h
  | transition | version => simpa using h
  | table => simp [h]

/-- A write of the glue keeps a cached version (R337). -/
theorem GlueWrite.swVersion_some {D : EventData → Prop} {s t : State} {v : Bytes}
    (hw : GlueWrite D s t) (h : s.swVersion = some v) : t.swVersion = some v := by
  cases hw with
  | outputs ho =>
    obtain ⟨o, n, rfl⟩ := ho
    exact h
  | frame | ingest => exact h
  | transition | table => simpa using h
  | version => simp [h]

theorem denomTab_written_once {i : Instr} {s t : State} {m : DenomTab} (h : exec i s = .next t)
    (hm : s.denomTab = some m) (hr : i ≠ .opReset) (hf : i ≠ .opSessionRefresh) :
    t.denomTab = some m := by
  rcases glueWrites_or_control_of_exec h with hg | hc
  · exact hg.keeps GlueWrite.denomTab_some hm
  · cases hc with
    | reset => exact absurd rfl hr
    | sessionRefresh => exact absurd rfl hf
    | crcClear | crcByte | hostDisable | stuckFire | fsmNew => exact hm

theorem swVersion_written_once {i : Instr} {s t : State} {v : Bytes} (h : exec i s = .next t)
    (hv : s.swVersion = some v) (hr : i ≠ .opReset) : t.swVersion = some v := by
  rcases glueWrites_or_control_of_exec h with hg | hc
  · exact hg.keeps GlueWrite.swVersion_some hv
  · cases hc with
    | reset => exact absurd rfl hr
    | crcClear | crcByte | hostDisable | stuckFire | fsmNew | sessionRefresh => exact hv

/-- Settles O58: the glue writes an empty cache only, and no other operation fills one. -/
theorem cachesAreWrittenOnce : Obligations.CachesAreWrittenOnce :=
  fun _ _ _ h => ⟨fun _ hm => denomTab_written_once h hm, fun _ hv => swVersion_written_once h hv⟩

/-! ### The writers of each register -/

theorem crcAcc_writers {i : Instr} {s t : State} (h : Effect s i t) (hne : t.crcAcc ≠ s.crcAcc) :
    i = .opCrcClear ∨ (∃ b, i = .opCrcByte b) ∨ i = .opReset := by
  cases h with
  | outputs _ ho =>
    obtain ⟨o, n, rfl⟩ := ho
    exact absurd rfl hne
  | control hc =>
    cases hc with
    | crcClear => exact .inl rfl
    | crcByte b => exact .inr (.inl ⟨b, rfl⟩)
    | reset => exact .inr (.inr rfl)
    | hostDisable | stuckFire | fsmNew | sessionRefresh => exact absurd rfl hne
  | eventlessFrame | frame | rxChunk | rxByte | rxDeliver | fsmEvent | hostEvent => simp at hne

theorem stuckFired_writers {i : Instr} {s t : State} (h : Effect s i t)
    (hne : t.stuckFired ≠ s.stuckFired) :
    (t.stuckFired = true ∧ i = .opStuckFire) ∨
    (t.stuckFired = false ∧ (i = .opFsmNew ∨ i = .opSessionRefresh ∨ i = .opReset)) := by
  cases h with
  | outputs _ ho =>
    obtain ⟨o, n, rfl⟩ := ho
    exact absurd rfl hne
  | control hc =>
    cases hc with
    | stuckFire => exact .inl ⟨rfl, rfl⟩
    | fsmNew => exact .inr ⟨rfl, .inl rfl⟩
    | sessionRefresh => exact .inr ⟨rfl, .inr (.inl rfl)⟩
    | reset => exact .inr ⟨rfl, .inr (.inr rfl)⟩
    | crcClear | crcByte | hostDisable => exact absurd rfl hne
  | eventlessFrame | frame | rxChunk | rxByte | rxDeliver | fsmEvent | hostEvent => simp at hne

theorem stuckFired_set {i : Instr} {s t : State} (h : Effect s i t) (hs : s.stuckFired = false)
    (ht : t.stuckFired = true) : i = .opStuckFire := by
  rcases stuckFired_writers h (by simp [hs, ht]) with ⟨_, hi⟩ | ⟨hf, _⟩
  · exact hi
  · simp [hf] at ht

theorem stuckFired_cleared {i : Instr} {s t : State} (h : Effect s i t) (hs : s.stuckFired = true)
    (ht : t.stuckFired = false) : i = .opFsmNew ∨ i = .opSessionRefresh ∨ i = .opReset := by
  rcases stuckFired_writers h (by simp [hs, ht]) with ⟨hf, _⟩ | ⟨_, hi⟩
  · simp [hf] at ht
  · exact hi

theorem rxBuf_writers {i : Instr} {s t : State} (h : Effect s i t) (hne : t.rxBuf ≠ s.rxBuf) :
    (∃ c, i = .opRxChunk c) ∨ (∃ b, i = .opRxByte b) ∨ (∃ c, i = .opRxDeliver c) ∨
      i = .opReset := by
  cases h with
  | outputs _ ho =>
    obtain ⟨o, n, rfl⟩ := ho
    exact absurd rfl hne
  | rxChunk c => exact .inl ⟨c, rfl⟩
  | rxByte b => exact .inr (.inl ⟨b, rfl⟩)
  | rxDeliver c => exact .inr (.inr (.inl ⟨c, rfl⟩))
  | control hc =>
    cases hc with
    | reset => exact .inr (.inr (.inr rfl))
    | crcClear | crcByte | hostDisable | stuckFire | fsmNew | sessionRefresh => exact absurd rfl hne
  | eventlessFrame | frame | fsmEvent | hostEvent => simp at hne

theorem frm_writers {i : Instr} {s t : State} (h : Effect s i t) (hne : t.frm ≠ s.frm) :
    isFrameRow i = true ∨ (∃ c, i = .opRxChunk c) ∨ (∃ b, i = .opRxByte b) ∨
      (∃ c, i = .opRxDeliver c) ∨ i = .opReset := by
  cases h with
  | outputs _ ho =>
    obtain ⟨o, n, rfl⟩ := ho
    exact absurd rfl hne
  | eventlessFrame hi => exact .inl hi
  | frame hi => exact .inl hi
  | rxChunk c => exact .inr (.inl ⟨c, rfl⟩)
  | rxByte b => exact .inr (.inr (.inl ⟨b, rfl⟩))
  | rxDeliver c => exact .inr (.inr (.inr (.inl ⟨c, rfl⟩)))
  | control hc =>
    cases hc with
    | reset => exact .inr (.inr (.inr (.inr rfl)))
    | crcClear | crcByte | hostDisable | stuckFire | fsmNew | sessionRefresh => exact absurd rfl hne
  | fsmEvent | hostEvent => simp at hne

theorem fsmState_writers {i : Instr} {s t : State} (h : Effect s i t)
    (hne : t.fsmState ≠ s.fsmState) :
    (isFrameRow i = true ∧ ∀ opcode payload, i ≠ .rspAck opcode payload ∧
      i ≠ .rspInhibit opcode payload ∧ i ≠ .rspUnknown opcode payload) ∨
    (∃ ev data, i = .opFsmEvent ev data) ∨ (∃ code, i = .opHostEvent code) ∨
    (∃ c, i = .opRxDeliver c) ∨ i = .opFsmNew ∨ i = .opSessionRefresh ∨ i = .opReset := by
  cases h with
  | outputs _ ho =>
    obtain ⟨o, n, rfl⟩ := ho
    exact absurd rfl hne
  | frame hi hev => exact .inl ⟨hi, hev⟩
  | control hc =>
    cases hc with
    | fsmNew | sessionRefresh | reset => simp
    | crcClear | crcByte | hostDisable | stuckFire => exact absurd rfl hne
  | rxDeliver | fsmEvent | hostEvent => simp
  | eventlessFrame | rxChunk | rxByte => simp at hne

/-- Leaving and entering a state only ever clears `disable_flag` (R272, R278, R279). -/
theorem entryFlag_exitFlag_false (t src : StateName) : entryFlag t (exitFlag src false) = false := by
  unfold entryFlag exitFlag
  split
  · rfl
  · rfl
  · split <;> rfl

theorem GlueWrite.disableFlag_false {D : EventData → Prop} {s t : State} (hw : GlueWrite D s t)
    (h : s.disableFlag = false) : t.disableFlag = false := by
  cases hw with
  | outputs ho =>
    obtain ⟨o, n, rfl⟩ := ho
    exact h
  | frame | ingest => exact h
  | transition t => simp [h, entryFlag_exitFlag_false]
  | table | version => simpa using h

theorem disableFlag_set {i : Instr} {s t : State} (h : exec i s = .next t)
    (hs : s.disableFlag = false) (ht : t.disableFlag = true) : i = .opHostDisable := by
  rcases glueWrites_or_control_of_exec h with hg | hc
  · exact absurd ht (by simp [hg.keeps GlueWrite.disableFlag_false hs])
  · cases hc with
    | hostDisable => rfl
    | crcClear | crcByte | stuckFire => exact absurd (hs.symm.trans ht) nofun
    | fsmNew | sessionRefresh | reset => exact absurd ht nofun

/-- Settles O57: one lemma per register, by the effect of the instruction. -/
theorem onlyTheNamedOperationsWriteEachRegister :
    Obligations.OnlyTheNamedOperationsWriteEachRegister := by
  intro i s t h
  have heff := effect_of_exec h
  exact ⟨crcAcc_writers heff, stuckFired_set heff, stuckFired_cleared heff, rxBuf_writers heff,
    disableFlag_set h, fsmState_writers heff, frm_writers heff⟩

end Sys2Proof.Machine

/-! ### The data of a frame may be stored -/

namespace Sys2Proof

/-- Event data that a cache may take: no significand 0 (R233), a version that is a payload (R31). -/
def EventData.Storable : EventData → Prop
  | .denoms entries => ∀ e ∈ entries, e.sig ≠ 0
  | .version text => text.length ≤ Config.maxPayload
  | _ => True

end Sys2Proof

namespace Sys2Proof.Machine

theorem sig_ne_zero_of_mem_denomEntries {payload : Bytes} {e : DenomEntry}
    (h : e ∈ denomEntries payload) : e.sig ≠ 0 := by
  induction payload using denomEntries.induct with
  | case1 code skipped exp rest ih => exact ih (by simpa [denomEntries] using h)
  | case2 code skipped sig exp rest hsig ih =>
    rw [denomEntries, if_neg hsig] at h
    rcases List.mem_cons.1 h with rfl | h
    · exact hsig
    · exact ih h
  | case3 payload hshort => simp [denomEntries] at h

theorem storable_decodeResponse (p : Params) (tab : Option DenomTab) (name : RspName) (opcode : Byte)
    {payload : Bytes} (h : payload.length ≤ Config.maxPayload) :
    EventData.Storable (decodeResponse p tab name opcode payload).data := by
  cases name with
  | denominations => exact fun e he => sig_ne_zero_of_mem_denomEntries he
  | version => exact h
  | _ => trivial

/-- What the parser reads from a frame that fits the length byte may be stored. -/
theorem storable_holdsOfFrames : HoldsOfFrames EventData.Storable where
  noData := trivial
  parsed p tab frame h := by
    unfold parseFrame
    split
    · trivial
    · trivial
    · trivial
    next name opcode payload hclass =>
      rw [payload_of_classify_response hclass]
      exact storable_decodeResponse p tab name opcode (length_framePayload_le h)

/-! ### Every write keeps the invariant -/

theorem mem_of_mem_tabBuild {entries : List DenomEntry} {e : DenomEntry} (h : e ∈ tabBuild entries) :
    e ∈ entries := by
  suffices H : ∀ (l : List DenomEntry) (m : DenomTab),
      e ∈ l.foldl (fun m e => tabInsert e m) m → e ∈ l ∨ e ∈ m from
    (H entries [] h).resolve_right List.not_mem_nil
  intro l
  induction l with
  | nil => exact fun _ h => .inr h
  | cons d l ih =>
    intro m h
    rcases ih _ h with h | h
    · exact .inl (List.mem_cons_of_mem d h)
    · exact (mem_tabInsert h).imp_left fun he => List.mem_cons.2 (.inl he)

theorem denomInv_populate {entries : List DenomEntry} {s : State} (h : denomInv s.denomTab = true)
    (he : ∀ e ∈ entries, e.sig ≠ 0) : denomInv (populate entries s).denomTab = true := by
  cases hs : s.denomTab with
  | none => simpa [hs, denomInv] using fun e hm => he e (mem_of_mem_tabBuild hm)
  | some m => simpa [hs, denomInv] using h

theorem versionInv_cacheVersion {text : Bytes} {s : State} (h : versionInv s.swVersion = true)
    (hl : text.length ≤ Config.maxPayload) :
    versionInv (cacheVersion text s).swVersion = true := by
  cases hs : s.swVersion with
  | none => simpa [hs, versionInv] using hl
  | some v => simpa [hs, versionInv] using h

/-- Entering Enable or Disable clears the flag (R278, R279). -/
theorem flagInv_transition (t : StateName) (s : State) : flagInv (transition t s) = true := by
  by_cases ht : t = .enable ∨ t = .disable
  · rcases ht with rfl | rfl <;> simp [flagInv, entryFlag]
  · simp_all [flagInv]

/-- A transition arms the timer in the states of R291 under `by_state` only (R290). -/
theorem timerInv_transition (t : StateName) (s : State) : timerInv (transition t s) = true := by
  simp only [timerInv, transition_stuckArmed, transition_fsmState, transition_cfg,
    entryArms_eq_mem_armingStates, Bool.not_or_self]

theorem State.Inv.setInbox {s : State} (h : s.Inv) (inbox : List Stimulus) : (s.setInbox inbox).Inv :=
  ⟨h.rx, h.memory, h.denom, h.version, h.flag, h.timer⟩

theorem GlueWrite.inv {s t : State} (hw : GlueWrite EventData.Storable s t) (h : s.Inv) : t.Inv := by
  obtain ⟨hrx, hmem, hden, hver, hflag, htimer⟩ := h
  cases hw with
  | outputs ho =>
    obtain ⟨o, n, rfl⟩ := ho
    exact ⟨hrx, hmem, hden, hver, hflag, htimer⟩
  | frame o => exact ⟨hrx, hmem, hden, hver, hflag, htimer⟩
  | ingest chunk => exact ⟨ingest_rxInv _ _, hmem, hden, hver, hflag, htimer⟩
  | transition t =>
    exact ⟨by simpa using hrx, by simpa using hmem, by simpa using hden, by simpa using hver,
      flagInv_transition t s, timerInv_transition t s⟩
  | table he =>
    exact ⟨by simpa using hrx, populate_wf _ hmem, denomInv_populate hden he, by simpa using hver,
      by simpa [flagInv] using hflag, by simpa [timerInv] using htimer⟩
  | version hl =>
    exact ⟨by simpa using hrx, by simpa using hmem, by simpa using hden,
      versionInv_cacheVersion hver hl, by simpa [flagInv] using hflag,
      by simpa [timerInv] using htimer⟩

/-- A fresh state machine has nothing deferred and nothing armed (R402). -/
theorem ControlEffect.inv {i : Instr} {s t : State} (hc : ControlEffect s i t) (h : s.Inv) : t.Inv := by
  obtain ⟨hrx, hmem, hden, hver, hflag, htimer⟩ := h
  cases hc with
  | crcClear | crcByte => exact ⟨hrx, hmem, hden, hver, hflag, htimer⟩
  | hostDisable he hd => exact ⟨hrx, hmem, hden, hver, by simp [flagInv, he, hd], htimer⟩
  | stuckFire => exact ⟨hrx, hmem, hden, hver, hflag, rfl⟩
  | fsmNew => exact ⟨hrx, hmem, hden, hver, rfl, rfl⟩
  | sessionRefresh => exact ⟨hrx, rfl, rfl, hver, rfl, rfl⟩
  | reset => exact ⟨rfl, rfl, rfl, rfl, rfl, rfl⟩

/-- Every instruction but a frame's row keeps the invariant; a row may carry a payload that no frame has. -/
theorem exec_inv {i : Instr} {s t : State} (hi : isFrameRow i = false) (h : s.Inv)
    (he : exec i s = .next t) : t.Inv := by
  rcases (effect_of_exec he).glueWrites_or_control storable_holdsOfFrames (by simp [hi]) with hg | hc
  · exact hg.keeps GlueWrite.inv h
  · exact hc.inv h

/-! ### A frame's row does what the parser and the glue do with the frame -/

theorem exec_pathInstr (kind : Option Kind) (opcode : Byte) (payload : Bytes) (s : State) :
    exec (pathInstr kind opcode payload) s =
      .next (receive s (pathResponse s.cfg kind opcode payload)) := by
  rcases kind with _ | kind
  · rfl
  · cases kind <;> rfl

theorem exec_responseInstr (name : RspName) (opcode : Byte) (payload : Bytes) (s : State) :
    exec (responseInstr s.cfg name opcode payload) s =
      .next (receive s (decodeResponse s.cfg s.denomTab name opcode payload)) := by
  cases name with
  | currencypath | setCount | setCurrentCount | count => exact exec_pathInstr _ opcode payload s
  | _ => rfl

theorem exec_frameInstr (frame : Bytes) (s : State) :
    exec (frameInstr s.cfg frame) s = .next (receive s (parseFrame s.cfg s.denomTab frame)) := by
  unfold frameInstr parseFrame
  cases classify s.cfg frame with
  | response name opcode payload => exact exec_responseInstr name opcode payload s
  | tooShort | crcMismatch | unknown => rfl

theorem isFrameRow_commandInstr (c : CmdName) (p0 p1 : Byte) :
    isFrameRow (commandInstr c p0 p1) = false := by
  cases c <;> rfl

theorem isFrameRow_of_isOperation {i : Instr} (h : i.isOperation = true) : isFrameRow i = false := by
  revert h
  cases i <;> simp [isFrameRow, Instr.isOperation]

theorem isFrameRow_of_decodeImage {p : Params} {image : Bytes} {i : Instr}
    (h : decodeImage p image = some i) : isFrameRow i = false := by
  unfold decodeImage at h
  split at h
  · cases h
  · obtain ⟨t, _, rfl⟩ := Option.map_eq_some_iff.1 h
    exact isFrameRow_commandInstr _ _ _

/-- A frame's row is only ever decoded from a notification of that frame. -/
theorem decode_cases {p : Params} {buf : Bytes} {st : Stimulus} {i : Instr}
    (h : decode p buf st = .ok i) :
    isFrameRow i = false ∨ ∃ frame, isOneFrame frame = true ∧ i = frameInstr p frame := by
  unfold decode at h
  split at h
  next chunk =>
    split at h <;> cases h
    next hone => exact .inr ⟨chunk, (Bool.and_eq_true_iff.1 hone).2, rfl⟩
    next => exact .inl rfl
  next image =>
    split at h <;> cases h
    next hi => exact .inl (isFrameRow_of_decodeImage hi)
  next =>
    split at h <;> cases h
    next hop => exact .inl (isFrameRow_of_isOperation hop)

/-! ### The invariant -/

theorem decoded_inv {i : Instr} {st : Stimulus} {buf : Bytes} {s t : State}
    (hd : decode s.cfg buf st = .ok i) (h : s.Inv) (he : exec i s = .next t) : t.Inv := by
  rcases decode_cases hd with hi | ⟨frame, hone, rfl⟩
  · exact exec_inv hi h he
  · cases (exec_frameInstr frame s).symm.trans he
    have hdata := storable_holdsOfFrames.parsed s.cfg s.denomTab frame (length_le_of_isOneFrame hone)
    exact (glueWrites_receive hdata s).keeps GlueWrite.inv h

/-- Settles O55, by what the step does with the first stimulus: nothing, or the decoded instruction. -/
theorem everyStepKeepsTheInvariant : Obligations.EveryStepKeepsTheInvariant := by
  intro s s' h hstep
  cases hin : s.inbox with
  | nil =>
    cases (step_of_inbox_nil hin).symm.trans hstep
    exact h
  | cons st rest =>
    cases hd : decode s.cfg s.rxBuf st with
    | ok i =>
      rw [step_of_decode_ok hin hd] at hstep
      exact decoded_inv (s := s.setInbox rest) hd (h.setInbox rest) hstep
    | error r => cases (step_of_decode_error hin hd).symm.trans hstep

/-- Settles O54, by evaluating the reset state. -/
theorem resetStateSatisfiesTheInvariant : Obligations.ResetStateSatisfiesTheInvariant :=
  ⟨⟨rfl, reset_memory_wf, rfl, rfl, rfl, rfl⟩, by decide +kernel, rfl⟩

end Sys2Proof.Machine

/-! PROOFS. Commands with parameters (41_tx_encode.md R155, R171 to R174, 45_glue.md R346 to R349), events that
the host raises (30_encoding.md R107, R114, 45_glue.md R335 to R339, R354), and the words of the opcode table
(30_encoding.md R90 to R101). -/

namespace Sys2Proof.Machine

/-! ### Commands with parameters -/

/-- Both parameters in their slots, without the trailer (R155). -/
abbrev patchedBody (bytes : Bytes) (i j : Nat) (p0 p1 : Byte) : Bytes :=
  ((bytes.set i p0).set j p1).take (bytes.length - 2)

/-- The slots patched, then the trailer of what comes before it (R155). -/
theorem commandImage_of_slots (c : CrcParams) (bytes : Bytes) (i j : Nat) (p0 p1 : Byte) :
    commandImage c ⟨bytes, some (i, j)⟩ p0 p1 =
      patchedBody bytes i j p0 p1 ++ trailerBytes (crc16 c (patchedBody bytes i j p0 p1)) := by
  simp [commandImage, sealTrailer, frameBody, patchedBody]

/-- The instruction is `TX_ENCODE` of a command with both parameters given, as the rows and the host operations of
the commands with parameters are (R171 to R174, R346 to R349). -/
def SendsGiven (i : Instr) (c : CmdName) (p0 p1 : Byte) : Prop :=
  ∀ s, exec i s = .next (txEncode c (some p0) (some p1) s)

theorem SendsGiven.of_slots {i : Instr} {c : CmdName} {p0 p1 : Byte} (h : SendsGiven i c p0 p1)
    {s : State} {bytes : Bytes} {j k : Nat}
    (ht : templateLookup s.cfg c = some ⟨bytes, some (j, k)⟩) :
    exec i s = .next (s.push [.diag (.dispatch c.id (some p0) (some p1)),
      .tx (patchedBody bytes j k p0 p1 ++
        trailerBytes (crc16 s.cfg.crc (patchedBody bytes j k p0 p1)))]) := by
  rw [h s, txEncode_given p0 p1 ht, commandImage_of_slots]

theorem SendsGiven.of_none {i : Instr} {c : CmdName} {p0 p1 : Byte} (h : SendsGiven i c p0 p1)
    {s : State} (ht : templateLookup s.cfg c = none) : exec i s = .next (s.push [.txErr c.id]) := by
  rw [h s, txEncode_none _ _ ht]

/-- Settles O11: each of the eight rows is `TX_ENCODE` of its command with both parameters given. -/
theorem parametricCommandsPatchTheirFrame : Obligations.ParametricCommandsPatchTheirFrame := by
  intro p0 p1
  simp only [List.forall_mem_cons, List.not_mem_nil, false_imp_iff, implies_true, and_true]
  and_intros <;>
    exact fun s => ⟨fun _ _ _ => SendsGiven.of_slots (fun _ => rfl), SendsGiven.of_none (fun _ => rfl)⟩

end Sys2Proof.Machine

namespace Sys2Proof

/-! ### Event codes -/

/-- The port's code of an event names the event (R107). -/
@[simp] theorem Event.ofCode?_code (ev : Event) : Event.ofCode? ev.code = some ev := by
  cases ev <;> rfl

theorem Event.code_of_ofCode? {code : BitVec 6} {ev : Event} (h : Event.ofCode? code = some ev) :
    ev.code = code := by
  simpa using List.find?_some h

/-- The codes of the events are 1 to 33 (R107). -/
theorem Event.code_bounds (ev : Event) : 1 ≤ ev.code.toNat ∧ ev.code.toNat ≤ 33 := by
  cases ev <;> decide

end Sys2Proof

namespace Sys2Proof.Machine

/-! ### Transitions, in the terms of the rules -/

theorem exitFlag_eq (src : StateName) (flag : Bool) :
    exitFlag src flag = (flag && decide (src ≠ .disable)) := by
  cases src <;> simp [exitFlag]

theorem entryFlag_eq (t : StateName) (flag : Bool) :
    entryFlag t flag = (flag && decide (t ≠ .enable) && decide (t ≠ .disable)) := by
  cases t <;> simp [entryFlag]

theorem exitEmits_eq_readyIf (src : StateName) : exitEmits src = readyIf src := by
  cases src <;> rfl

/-- The whole state after a transition, in the terms of R266, R272, R278, R279, R290 and R291. -/
theorem transition_eq (t : StateName) (s : State) :
    transition t s = { s with
      fsmState := t
      stuckArmed := decide (t ∈ armingStates ∧ s.cfg.stuckMode = .byState)
      disableFlag := s.disableFlag && decide (s.fsmState ≠ .disable) && decide (t ≠ .enable) &&
        decide (t ≠ .disable)
      out := s.out ++ armOutputs s.cfg.stuckMode t } := by
  rw [← exitFlag_eq s.fsmState, ← entryFlag_eq t, ← entryArms_eq_mem_armingStates, armOutputs_eq]
  unfold transition
  dsimp only
  split
  next h =>
    rw [h]
    rfl
  next h =>
    rw [Bool.eq_false_of_not_eq_true h]
    simp only [List.append_nil]
    rfl

/-! ### The glue as outputs -/

/-- A chain of operations that each only append outputs, under fixed parameters, appends all of them. -/
theorem foldl_eq_push {α : Type} {f : State → α → State} {outputs : α → List Output} {p : Params}
    {l : List α} (hf : ∀ a ∈ l, ∀ s : State, s.cfg = p → f s a = s.push (outputs a)) {s : State}
    (hs : s.cfg = p) : l.foldl f s = s.push (l.flatMap outputs) := by
  induction l generalizing s with
  | nil => simp
  | cons a l ih =>
    obtain ⟨ha, hl⟩ := List.forall_mem_cons.1 hf
    rw [List.foldl_cons, ha s hs, ih hl (by simpa using hs), State.push_push, List.flatMap_cons]

section

variable {sent : CmdName → List Output}

/-- The commands that a hook or the glue requests (R277, R278, R289, R335), those `SendsAs` speaks of. -/
abbrev requestable : List CmdName := [.ack, .reset, .inhibit, .reject]

/-- A command that a hook or the glue requests outputs what `sent` says (R335, R338). -/
theorem txEncode_of_sendsAs {s : State} (h : SendsAs s.cfg sent) {c : CmdName}
    (hc : c ∈ requestable) :
    txEncode c none none s = s.push (sent c) := by
  rcases h c hc with ⟨ht, hsent⟩ | ⟨bytes, ht, hsent⟩
  · rw [txEncode_none none none ht, hsent]
  · rw [txEncode_stored none none ht rfl, hsent]
    rfl

/-- The emit fills no cache: what it could store comes from `NoData`, which stores nothing (R336, R337). -/
abbrev DomainEvent.FillsNoCache (e : DomainEvent) : Prop := e.Stores (· = .noData)

theorem published_of_ne {e : DomainEvent} (h : ∀ code, e ≠ .billRead none code) :
    published sent e = [.emit e] := by
  unfold published
  split
  next code => exact absurd rfl (h code)
  next => rfl

/-- An emit that fills no cache is published, or is the automatic reject (R335, R338). -/
theorem afterEmit_eq_push {s : State} (h : SendsAs s.cfg sent) {e : DomainEvent}
    (he : e.FillsNoCache) : afterEmit s e = s.push (published sent e) := by
  unfold afterEmit
  split
  next => exact txEncode_of_sendsAs h (by simp)
  next => cases he
  next => cases he
  next hread _ _ => rw [published_of_ne hread]

/-- The hooks request no command but these (R277, R278, R289). -/
theorem mem_of_mem_entryDispatches {t src : StateName} {flag : Bool} {c : CmdName}
    (h : c ∈ entryDispatches t src flag) : c ∈ requestable := by
  unfold entryDispatches at h
  split at h
  · simp_all
  · split at h <;> simp_all
  · split at h <;> simp_all
  · simp_all

/-- All emits acted on in order, then all commands sent (R354). -/
theorem after_eq_push {r : Reaction} {s : State} (h : SendsAs s.cfg sent)
    (he : ∀ e ∈ r.emits, e.FillsNoCache)
    (hd : ∀ c ∈ r.dispatches, c ∈ requestable) :
    after r s = s.push (r.emits.flatMap (published sent) ++ r.dispatches.flatMap sent) := by
  have hemits := foldl_eq_push (f := afterEmit) (outputs := published sent)
    (fun e hmem t ht => afterEmit_eq_push (ht ▸ h) (he e hmem)) (rfl : s.cfg = s.cfg)
  have hdispatches := foldl_eq_push (f := afterDispatch) (outputs := sent)
    (s := s.push (r.emits.flatMap (published sent)))
    (fun c hmem t ht => txEncode_of_sendsAs (ht ▸ h) (hd c hmem)) (rfl : _ = s.cfg)
  rw [after, hemits, hdispatches, State.push_push]

/-- An admitted event without data, with the glue: the transition, its emits and its commands (R266, R354). -/
theorem react_noData_of_some {ev : Event} {s : State} {t : StateName}
    (hn : nextState s.cfg.rules ev s.fsmState = some t) (h : SendsAs s.cfg sent) :
    react ev .noData s = (transition t s).push
      ((readyIf s.fsmState ++ entryEmits t s.fsmState .noData).flatMap (published sent) ++
        (entryDispatches t s.fsmState (s.disableFlag && decide (s.fsmState ≠ .disable))).flatMap
          sent) := by
  have hcfg : SendsAs (transition t s).cfg sent := by rwa [transition_cfg]
  have hemits : ∀ e ∈ exitEmits s.fsmState ++ entryEmits t s.fsmState .noData,
      e.FillsNoCache := fun e he =>
    (List.mem_append.1 he).elim (exitEmits_stores _ e)
      (entryEmits_stores (D := (· = .noData)) rfl t _ e)
  rw [react, fsmEvent_some .noData hn, after_eq_push hcfg hemits fun c => mem_of_mem_entryDispatches,
    exitEmits_eq_readyIf, exitFlag_eq]

end

/-! ### `HOST_EVENT` -/

/-- `HOST_EVENT` of the code of an event (R339). -/
theorem hostEventCode_code (ev : Event) (s : State) : hostEventCode ev.code s = hostEvent ev s := by
  simp only [hostEventCode, Event.ofCode?_code]

theorem hostEventCode_of_unused {code : BitVec 6} (h : Event.ofCode? code = none) (s : State) :
    hostEventCode code s = s.push [.diag (.invalidTransition code s.fsmState),
      .result .invalidTransition] := by
  simp only [hostEventCode, h]
  exact State.push_push s _ _

theorem exec_opHostEvent (code : BitVec 6) (s : State) :
    exec (.opHostEvent code) s = .next (hostEventCode code s) := rfl

/-- Settles O26: the transition, then what the glue outputs for its emits and its commands. -/
theorem hostEventTransitionsThenActs : Obligations.HostEventTransitionsThenActs := by
  intro r hr s t sent hn h
  have hcode : r.1.code = r.2 := by
    clear hn
    revert r
    decide
  rw [← hcode, exec_opHostEvent, hostEventCode_code, hostEvent, react_noData_of_some hn h,
    fsmEvent_some .noData hn, transition_eq]
  simp [State.push]

/-- An event that no rule admits changes nothing, with or without the glue (R267). -/
theorem react_of_none {ev : Event} {s : State} (data : EventData)
    (h : nextState s.cfg.rules ev s.fsmState = none) :
    react ev data s = s.push [.diag (.invalidTransition ev.code s.fsmState)] := by
  rw [react, fsmEvent_none data h]
  rfl

theorem hostEvent_of_none {ev : Event} {s : State}
    (h : nextState s.cfg.rules ev s.fsmState = none) :
    hostEvent ev s = s.push [.diag (.invalidTransition ev.code s.fsmState),
      .result .invalidTransition] := by
  rw [hostEvent, react_of_none .noData h, fsmEvent_none .noData h, State.push_push]
  rfl

/-- Settles O27: the code names an event without a rule, or no event (R114). -/
theorem hostEventWithoutARuleIsInvalid : Obligations.HostEventWithoutARuleIsInvalid := by
  intro code s h
  cases hev : Event.ofCode? code with
  | none =>
    rw [exec_opHostEvent, hostEventCode_of_unused hev]
    rfl
  | some ev =>
    obtain rfl := Event.code_of_ofCode? hev
    have hnone : nextState s.cfg.rules ev s.fsmState = none := by
      obtain ⟨hlow, hhigh⟩ := ev.code_bounds
      rcases h with h0 | h34 | hrules
      · simp [h0] at hlow
      · omega
      · exact hrules ev rfl
    rw [exec_opHostEvent, hostEventCode_code, hostEvent_of_none hnone]
    rfl

end Sys2Proof.Machine

namespace Sys2Proof

/-! ### Words of the opcode table -/

/-- A word whose first byte is the sync byte is in wire order already. -/
theorem wireOrder_sync (bs : Bytes) : wireOrder (Config.sync :: bs) = Config.sync :: bs := by
  simp [wireOrder]

/-- The first byte of a word is its least significant one. -/
theorem wordBytes_cons (n w : Nat) (b : Byte) :
    wordBytes (n + 1) (b.toNat + 256 * w) = b :: wordBytes n w := by
  have hb := b.isLt
  have hshift (k : Nat) : (b.toNat + 256 * w) >>> (8 * (k + 1)) = w >>> (8 * k) := by
    rw [Nat.mul_succ, Nat.add_comm (8 * k), Nat.shiftRight_add]
    congr 1
    rw [Nat.shiftRight_eq_div_pow]
    omega
  have hfirst : BitVec.ofNat 8 (b.toNat + 256 * w) = b := by
    apply BitVec.eq_of_toNat_eq
    rw [BitVec.toNat_ofNat]
    omega
  simp [wordBytes, List.range_succ_eq_map, Function.comp_def, hshift, hfirst]

theorem wordBytes_sync_len (len : Byte) :
    wordBytes 2 (0xFC + 256 * len.toNat) = [Config.sync, len] := by
  have h : 0xFC + 256 * len.toNat = Config.sync.toNat + 256 * (len.toNat + 256 * 0) := rfl
  rw [h, wordBytes_cons, wordBytes_cons]
  rfl

theorem wordBytes_sync_len_opcode (len opcode : Byte) :
    wordBytes 3 (0x10000 * opcode.toNat + 0xFC + 256 * len.toNat) = [Config.sync, len, opcode] := by
  have h : 0x10000 * opcode.toNat + 0xFC + 256 * len.toNat =
      Config.sync.toNat + 256 * (len.toNat + 256 * (opcode.toNat + 256 * 0)) := by
    simp only [Config.sync, BitVec.reduceToNat]
    omega
  rw [h, wordBytes_cons, wordBytes_cons, wordBytes_cons]
  rfl

/-- The bytes before the trailer of an image decide whether a template without slots matches. -/
theorem frameBody_of_matchesTemplate {t : Template} {image : Bytes} (hs : t.slots = none)
    (h : matchesTemplate t image = true) : frameBody image = frameBody t.bytes := by
  obtain ⟨-, hbody⟩ : image.length = t.bytes.length ∧ maskedBody t image = maskedBody t t.bytes := by
    simpa [matchesTemplate] using h
  simpa [maskedBody, hs] using hbody

/-- An image that no command's template matches names no command. -/
theorem decodeImage_of_no_match {p : Params} {image : Bytes}
    (h : ∀ c t, templateLookup p c = some t → matchesTemplate t image = false) :
    decodeImage p image = none := by
  have hfind : CmdName.all.find? (commandMatches p image) = none := by
    refine List.find?_eq_none.2 fun c _ => ?_
    unfold commandMatches
    split
    next => simp
    next t ht => simp [h c t ht]
  simp only [decodeImage, hfind]

/-- The default templates have no slots, at least five bytes (R92), and another opcode than `accepting`. -/
theorem defaultTemplates_shape {c : CmdName} {t : Template}
    (h : templateLookup defaultParams c = some t) :
    t.slots = none ∧ 5 ≤ t.bytes.length ∧ (frameBody t.bytes)[2]? ≠ some 0x12 := by
  have hall : ∀ e ∈ defaultTemplates,
      e.2.slots = none ∧ 5 ≤ e.2.bytes.length ∧ (frameBody e.2.bytes)[2]? ≠ some 0x12 := by decide
  obtain ⟨before, later, heq, -⟩ := List.lookup_eq_some_iff.1 h
  refine hall (c, t) ?_
  rw [show defaultTemplates = before ++ (c, t) :: later from heq]
  exact List.mem_append_cons_self

/-- A word of the table that is no command's image is a received frame. -/
theorem tableStimulus_frame {p : Params} {nbits w : Nat} {len : Byte} {rest : Bytes}
    (hw : wordBytes ((nbits + 7) / 8) w = Config.sync :: len :: rest)
    (hi : decodeImage p (padTo len.toNat (Config.sync :: len :: rest)) = none) :
    tableStimulus p nbits w = .rx (completeFrame p (Config.sync :: len :: rest)) := by
  simp only [tableStimulus, hw, wireOrder_sync, List.getD_cons_succ, List.getD_cons_zero, hi]
  simp

theorem length_padTo (n : Nat) (bs : Bytes) : (padTo n bs).length = n := by
  simp [padTo]

/-- What the encoder writes for a well-formed instruction is a word's stimulus: the word names it. -/
theorem decodeTableWord_of_encode {nbits w : Nat} {i : Instr}
    (hw : WellFormed defaultParams i = true)
    (hst : encode defaultParams i = some (tableStimulus defaultParams nbits w)) :
    decodeTableWord nbits w = some i := by
  obtain ⟨st, he, hd⟩ := decodesBack_of_wellFormed _ i hw
  cases he.symm.trans hst
  simp only [decodeTableWord, hd]

/-- A word that gives the sync byte and a length byte below 5 is completed with zeros (the log, row 23). -/
theorem completeFrame_short (p : Params) {len : Byte} (h : len.toNat < 5) :
    completeFrame p [Config.sync, len] = Config.sync :: len :: List.replicate (len.toNat - 2) 0 := by
  obtain ⟨k, hk⟩ : ∃ k, frameSize len = k + 2 := ⟨len.toNat - 2, by rw [frameSize]; omega⟩
  have hk' : len.toNat - 2 = k := by
    rw [frameSize] at hk
    omega
  simp [completeFrame, Config.minFrame, h, hk, hk', padTo]

/-- A length byte below 5 and no opcode (R194). -/
theorem decodeTableWord_short {len : Byte} (h : len.toNat < 5) :
    decodeTableWord 16 (0xFC + 256 * len.toNat) =
      some (.rxTooShort len (List.replicate (len.toNat - 2) 0)) := by
  have himage : decodeImage defaultParams (padTo len.toNat [Config.sync, len]) = none := by
    refine decodeImage_of_no_match fun c t ht => ?_
    obtain ⟨-, hlen, -⟩ := defaultTemplates_shape ht
    have hne : len.toNat ≠ t.bytes.length := by omega
    simp [matchesTemplate, length_padTo, hne]
  refine decodeTableWord_of_encode ?_ ?_
  · have hsize : (List.replicate (len.toNat - 2) (0 : Byte)).length + 2 = frameSize len := by
      rw [List.length_replicate, frameSize]
      omega
    simpa [WellFormed, Config.minFrame, h] using hsize
  · rw [tableStimulus_frame (wordBytes_sync_len len) himage, completeFrame_short _ h]
    rfl

/-- The sync byte, a length byte of at least 5 and the opcode of `accepting` (R90, R101). -/
theorem decodeTableWord_accepting {len : Byte} (h : 5 ≤ len.toNat) :
    decodeTableWord 24 (0x1200FC + 256 * len.toNat) =
      some (.rspAccepting 0x12 (List.replicate (len.toNat - 5) 0)) := by
  have himage : decodeImage defaultParams (padTo len.toNat [Config.sync, len, 0x12]) = none := by
    refine decodeImage_of_no_match fun c t ht => ?_
    obtain ⟨hslots, -, hopcode⟩ := defaultTemplates_shape ht
    refine Bool.eq_false_of_not_eq_true fun hmatch => hopcode ?_
    rw [← frameBody_of_matchesTemplate hslots hmatch]
    simp [frameBody, padTo, List.getElem?_take]
    omega
  refine decodeTableWord_of_encode ?_ ?_
  · have hfits : payloadWf (List.replicate (len.toNat - 5) 0) = true := by
      have hlen := len.isLt
      simp only [payloadWf, List.length_replicate, Config.maxPayload, decide_eq_true_eq]
      omega
    exact Bool.and_eq_true_iff.2 ⟨hfits, by decide⟩
  · rw [tableStimulus_frame (wordBytes_sync_len_opcode len 0x12) himage, completeFrame_three _ _ _ h]
    rfl

end Sys2Proof

namespace Sys2Proof.Machine

/-- Only what a notification decodes to depends on the receive buffer. -/
theorem decode_eq_of_not_rx (p : Params) (buf buf' : Bytes) {st : Stimulus}
    (h : ∀ chunk, st ≠ .rx chunk) : decode p buf st = decode p buf' st := by
  cases st with
  | rx chunk => exact absurd rfl (h chunk)
  | image | strobe => rfl

/-- The step after `withFetchWord` executes what the word's stimulus decodes to. -/
theorem step_withFetchWord {s : State} {nbits w : Nat} {i : Instr}
    (hd : decode s.cfg [] (tableStimulus s.cfg nbits w) = .ok i) :
    step (s.withFetchWord nbits w) = exec i (s.setRxBuf []) ∨
      step (s.withFetchWord nbits w) = exec i s := by
  unfold State.withFetchWord
  split
  next chunk hst =>
    rw [hst] at hd
    exact .inl (step_of_decode_ok rfl hd)
  next st hst =>
    rw [decode_eq_of_not_rx _ _ s.rxBuf hst] at hd
    exact .inr (step_of_decode_ok rfl hd)

/-- Settles O53: the table's words are evaluated, the words with a free length byte are completed to frames, and
`withFetchWord` puts the word's stimulus first. -/
theorem tableWordsDecodeAndRun : Obligations.TableWordsDecodeAndRun := by
  refine ⟨by decide +kernel, fun _ => decodeTableWord_accepting, fun _ => decodeTableWord_short, ?_⟩
  intro s nbits w i hd
  rcases step_withFetchWord hd with h | h
  · exact ⟨[], h, .inl rfl⟩
  · exact ⟨s.rxBuf, h, .inr rfl⟩

end Sys2Proof.Machine

/-! PROOFS. The CRC unit (40_crc.md R131 to R139): what its three operations do, that one byte is a one-to-one
step of the accumulator, the mirrored register, the zero residue, and what a changed payload byte does to a
received frame (42_rx_ingest.md R191, R195). -/

namespace Sys2Proof

/-! ### Mirrored bytes and words, and the halves of a word -/

theorem getLsbD_reflect16 (w : Word) {i : Nat} (hi : i < 16) :
    (reflect16 w).getLsbD i = w.getLsbD (15 - i) := by
  simp only [reflect16, BitVec.getLsbD_reverse, BitVec.getMsbD, hi, decide_true, Bool.true_and]

theorem getLsbD_reflect8 (b : Byte) {i : Nat} (hi : i < 8) :
    (reflect8 b).getLsbD i = b.getLsbD (7 - i) := by
  simp only [reflect8, BitVec.getLsbD_reverse, BitVec.getMsbD, hi, decide_true, Bool.true_and]

theorem reflect8_reflect8 (b : Byte) : reflect8 (reflect8 b) = b := BitVec.reverse_reverse_eq

theorem reflect16_reflect16 (w : Word) : reflect16 (reflect16 w) = w := BitVec.reverse_reverse_eq

theorem reflect8_injective : Function.Injective reflect8 :=
  Function.Involutive.injective reflect8_reflect8

theorem reflect16_injective : Function.Injective reflect16 :=
  Function.Involutive.injective reflect16_reflect16

theorem reflect16_xor (a b : Word) : reflect16 (a ^^^ b) = reflect16 a ^^^ reflect16 b := by
  apply BitVec.eq_of_getLsbD_eq
  intro i hi
  simp only [BitVec.getLsbD_xor, getLsbD_reflect16 _ hi]

/-- A byte is read back from the high half of a word. -/
theorem hi8_setWidth_shiftLeft (d : Byte) : hi8 (d.setWidth 16 <<< 8) = d := by
  apply BitVec.eq_of_getLsbD_eq
  intro i hi
  simp [hi8, hi, show 8 + i < 16 by omega]

/-- A byte in the high half is mirrored into the low half. -/
theorem reflect16_setWidth_shiftLeft (b : Byte) :
    reflect16 (b.setWidth 16 <<< 8) = (reflect8 b).setWidth 16 := by
  apply BitVec.eq_of_getLsbD_eq
  intro i hi
  simp only [getLsbD_reflect16 _ hi, BitVec.getLsbD_shiftLeft, BitVec.getLsbD_setWidth]
  by_cases h : i < 8
  · simp only [getLsbD_reflect8 b h, show 15 - i - 8 = 7 - i by omega]
    simp [hi, show 15 - i < 16 by omega, show ¬15 - i < 8 by omega, show 7 - i < 16 by omega]
  · simp [hi, show 15 - i < 8 by omega, BitVec.getLsbD_of_ge _ i (show 8 ≤ i by omega)]

/-- A byte in the low half is mirrored into the high half. -/
theorem reflect16_setWidth (b : Byte) : reflect16 (b.setWidth 16) = (reflect8 b).setWidth 16 <<< 8 := by
  have h := congrArg reflect16 (reflect16_setWidth_shiftLeft (reflect8 b))
  rwa [reflect16_reflect16, reflect8_reflect8, eq_comm] at h

/-- The halves of `le16` do not overlap (R6). -/
theorem le16_eq_xor (a b : Byte) : le16 a b = a.setWidth 16 ^^^ (b.setWidth 16 <<< 8) := by
  apply BitVec.eq_of_getLsbD_eq
  intro i hi
  by_cases h : i < 8
  · simp [le16, h]
  · simp [le16, BitVec.getLsbD_of_ge a i (Nat.le_of_not_lt h)]

/-! ### A byte into the accumulator -/

/-- `crc_step` in one expression (R133). -/
theorem crcStep_eq (p : CrcParams) (c : Word) (b : Byte) :
    crcStep p c b =
      (crcShift p.poly)^[8] (c ^^^ ((if p.refin then reflect8 b else b).setWidth 16 <<< 8)) := rfl

theorem crcShift_zero (poly : Word) : crcShift poly 0 = 0 := by
  simp [crcShift]

/-- A zero byte leaves a zero accumulator zero, for every polynomial (R133). -/
theorem crcStep_zero (p : CrcParams) : crcStep p 0 0 = 0 := by
  have hbyte : (if p.refin then reflect8 0 else 0) = (0 : Byte) := by
    split <;> rfl
  have hzero : (0 : Word) ^^^ ((0 : Byte).setWidth 16 <<< 8) = 0 := by decide
  rw [crcStep_eq, hbyte, hzero, Function.iterate_fixed (crcShift_zero p.poly)]

/-- The accumulators that a byte takes to the same value are the same, with a constant term (R137). -/
theorem crcStep_acc_injective {p : CrcParams} (h : p.poly.getLsbD 0 = true) (b : Byte) :
    Function.Injective (crcStep p · b) := by
  intro c c' hc
  exact (BitVec.xor_left_inj _).1 ((crcShift_injective h).iterate 8 hc)

/-- The bytes that take an accumulator to the same value are the same, with a constant term (R137). -/
theorem crcStep_byte_injective {p : CrcParams} (h : p.poly.getLsbD 0 = true) (c : Word) :
    Function.Injective (crcStep p c) := by
  intro b b' hb
  have hhigh := (BitVec.xor_right_inj _).1 ((crcShift_injective h).iterate 8 hb)
  have hbyte := congrArg hi8 hhigh
  simp only [hi8_setWidth_shiftLeft] at hbyte
  cases hr : p.refin with
  | false => simpa [hr] using hbyte
  | true => exact reflect8_injective (by simpa [hr] using hbyte)

/-- A byte sequence is a one-to-one step of the accumulator too (R137). -/
theorem foldl_crcStep_injective {p : CrcParams} (h : p.poly.getLsbD 0 = true) (s : Bytes) :
    Function.Injective (s.foldl (crcStep p)) := by
  induction s with
  | nil => exact fun _ _ hc => hc
  | cons b s ih => exact fun _ _ hc => crcStep_acc_injective h b (ih hc)

theorem crcFinish_injective (p : CrcParams) : Function.Injective (crcFinish p) := by
  intro c c' hc
  have hout := (BitVec.xor_left_inj _).1 hc
  cases hr : p.refout with
  | false => simpa [hr] using hout
  | true => exact reflect16_injective (by simpa [hr] using hout)

/-- With `CRC_REFOUT` and no `CRC_XOROUT` the finished value is the mirrored accumulator (R134). -/
theorem crcFinish_eq_reflect16 {p : CrcParams} (hout : p.refout = true) (hxor : p.xorout = 0)
    (c : Word) : crcFinish p c = reflect16 c := by
  rw [crcFinish, if_pos hout, hxor]
  exact BitVec.xor_zero

/-! ### One changed byte -/

/-- The accumulators part at the changed byte and stay apart (R137). -/
theorem foldl_crcStep_set_ne {p : CrcParams} (h : p.poly.getLsbD 0 = true) {s : Bytes} {i : Nat}
    {x : Byte} (hi : i < s.length) (hx : s[i]? ≠ some x) (c : Word) :
    (s.set i x).foldl (crcStep p) c ≠ s.foldl (crcStep p) c := by
  induction s generalizing i c with
  | nil => exact absurd hi (Nat.not_lt_zero i)
  | cons b s ih =>
    cases i with
    | zero =>
      intro heq
      have hstep := foldl_crcStep_injective h s heq
      exact hx (congrArg some (crcStep_byte_injective h c hstep).symm)
    | succ i => exact ih (Nat.lt_of_succ_lt_succ hi) hx (crcStep p c b)

/-- Settles O5: the accumulators differ, and so do the finished values. -/
theorem changedByteChangesTheCrc : Obligations.ChangedByteChangesTheCrc :=
  fun c h _ _ _ hi hx heq => foldl_crcStep_set_ne h hi hx c.init (crcFinish_injective c heq)

/-! ### The mirrored register -/

theorem reflect16_shiftLeft_one (c : Word) : reflect16 (c <<< 1) = reflect16 c >>> 1 := by
  apply BitVec.eq_of_getLsbD_eq
  intro i hi
  simp only [reflect16, BitVec.getLsbD_reverse, BitVec.getLsbD_ushiftRight, BitVec.getMsbD_shiftLeft]
  rw [Nat.add_comm]

/-- One shift of the mirrored register is a shift to the right with the mirrored polynomial (R136). -/
theorem reflect16_semiconj_crcShift :
    Function.Semiconj reflect16 (crcShift defaultCrc.poly) crcShiftRight := by
  intro c
  have hlow : (reflect16 c).getLsbD 0 = c.msb := by
    rw [reflect16, BitVec.getLsbD_reverse, BitVec.msb]
  have hpoly : reflect16 defaultCrc.poly = 0x8408 := by decide
  unfold crcShift crcShiftRight
  rw [hlow]
  split
  · rw [reflect16_xor, reflect16_shiftLeft_one, hpoly]
  · exact reflect16_shiftLeft_one c

/-- A byte into the mirrored register (R136). -/
theorem crcShiftRight_byte_reflect16 (c : Word) (b : Byte) :
    crcShiftRight^[8] (reflect16 c ^^^ b.setWidth 16) = reflect16 (crcStep defaultCrc c b) := by
  have hbyte : b.setWidth 16 = reflect16 ((reflect8 b).setWidth 16 <<< 8) := by
    rw [reflect16_setWidth_shiftLeft, reflect8_reflect8]
  rw [hbyte, ← reflect16_xor, ← (reflect16_semiconj_crcShift.iterate_right 8).eq]
  rfl

/-- Settles O6: the right-shifting register holds the mirrored accumulator after every byte. -/
theorem rightShiftingRealisationAgrees : Obligations.RightShiftingRealisationAgrees := by
  intro s
  have hinit : reflect16 defaultCrc.init = 0 := by decide
  calc crc16 defaultCrc s
      = reflect16 (s.foldl (crcStep defaultCrc) defaultCrc.init) :=
        crcFinish_eq_reflect16 rfl rfl _
    _ = s.foldl (fun a b => crcShiftRight^[8] (a ^^^ b.setWidth 16)) (reflect16 defaultCrc.init) :=
        (List.foldl_hom reflect16 crcShiftRight_byte_reflect16).symm
    _ = crc16Right s := by rw [hinit, crc16Right]

/-! ### The zero residue -/

/-- A byte in the low half meets no set bit 15 on its way to the high half. -/
theorem crcShift_iterate_byte (poly : Word) (d : Byte) {n : Nat} (hn : n ≤ 8) :
    (crcShift poly)^[n] (d.setWidth 16) = d.setWidth 16 <<< n := by
  induction n with
  | zero => simp
  | succ n ih =>
    have hmsb : (d.setWidth 16 <<< n : Word).msb = false := by
      have hlow : 8 ≤ 15 - n := by omega
      simp [BitVec.msb_eq_getLsbD_last, hlow]
    rw [Function.iterate_succ_apply', ih (by omega), crcShift, hmsb, BitVec.shiftLeft_add]
    rfl

/-- The accumulator that stands for a trailer has the first byte, mirrored, in its high half (R94, R139). -/
theorem reflect16_le16 (a b : Byte) :
    reflect16 (le16 a b) = (reflect8 b).setWidth 16 ^^^ ((reflect8 a).setWidth 16 <<< 8) := by
  rw [le16_eq_xor, reflect16_xor, reflect16_setWidth, reflect16_setWidth_shiftLeft, BitVec.xor_comm]

/-- The trailer's two bytes take the accumulator that stands for the trailer to zero (R139). -/
theorem crcStep_crcStep_reflect16_le16 {p : CrcParams} (hin : p.refin = true) (a b : Byte) :
    crcStep p (crcStep p (reflect16 (le16 a b)) a) b = 0 := by
  have hfirst : crcStep p (reflect16 (le16 a b)) a = (reflect8 b).setWidth 16 <<< 8 := by
    rw [crcStep_eq, hin, if_pos rfl, reflect16_le16, BitVec.xor_assoc, BitVec.xor_self,
      BitVec.xor_zero, crcShift_iterate_byte _ _ le_rfl]
  rw [hfirst, crcStep_eq, hin, if_pos rfl, BitVec.xor_self]
  exact Function.iterate_fixed (crcShift_zero p.poly) 8

/-- The trailer's two bytes go to zero from no other accumulator, with a constant term (R137, R139). -/
theorem crcStep_crcStep_eq_zero_iff {p : CrcParams} (hin : p.refin = true)
    (hpoly : p.poly.getLsbD 0 = true) (c : Word) (a b : Byte) :
    crcStep p (crcStep p c a) b = 0 ↔ c = reflect16 (le16 a b) := by
  rw [← crcStep_crcStep_reflect16_le16 hin a b]
  exact (foldl_crcStep_injective hpoly [a, b]).eq_iff

/-- Settles O7: the residue is zero when the body's accumulator is the mirrored trailer. -/
theorem zeroResidueIsTheComparison : Obligations.ZeroResidueIsTheComparison := by
  intro p hin hout hxor hpoly body a b
  have hfinish := crcFinish_eq_reflect16 hout hxor
  calc crc16 p (body ++ [a, b]) = 0
      ↔ crcStep p (crcStep p (body.foldl (crcStep p) p.init) a) b = 0 := by
        rw [crc16, hfinish, List.foldl_append]
        exact BitVec.reverse_eq_zero_iff
    _ ↔ body.foldl (crcStep p) p.init = reflect16 (le16 a b) :=
        crcStep_crcStep_eq_zero_iff hin hpoly _ a b
    _ ↔ crc16 p body = le16 a b := by
        rw [crc16, hfinish, ← reflect16_injective.eq_iff, reflect16_reflect16]

end Sys2Proof

namespace Sys2Proof.Machine

/-! ### The three operations -/

theorem exec_opCrcClear (s : State) : exec .opCrcClear s = .next (s.setCrc s.cfg.crc.init) := rfl

theorem exec_opCrcByte (b : Byte) (s : State) :
    exec (.opCrcByte b) s = .next (s.setCrc (crcStep s.cfg.crc s.crcAcc b)) := rfl

theorem exec_opCrcRead (s : State) :
    exec .opCrcRead s = .next (s.push [.crcRead (crcFinish s.cfg.crc s.crcAcc)]) := rfl

/-- Settles O1, by the meaning of the operation. -/
theorem crcClearLoadsTheInitialValue : Obligations.CrcClearLoadsTheInitialValue := exec_opCrcClear

/-- Settles O2: the loop's test of bit 15 is the test of the top bit; zero stays zero. -/
theorem crcByteAppliesEightShifts : Obligations.CrcByteAppliesEightShifts := by
  refine ⟨fun b s => ?_, fun s hs => ?_⟩
  · have hbit : ∀ c : Word, c.getLsbD 15 = c.msb := fun c => (BitVec.msb_eq_getLsbD_last c).symm
    simp only [hbit]
    rfl
  · rw [exec_opCrcByte, hs, crcStep_zero, ← hs]
    rfl

/-- Settles O3, by the meaning of the operation. -/
theorem crcReadReportsTheFinishedValue : Obligations.CrcReadReportsTheFinishedValue := exec_opCrcRead

theorem execAll_cons_of_next {i : Instr} {is : List Instr} {s t : State} (h : exec i s = .next t) :
    execAll (i :: is) s = execAll is t := by
  rw [execAll, h]

/-- `CRC_BYTE` of each byte of a sequence, then anything (R135). -/
theorem execAll_opCrcByte_append (bytes : Bytes) (is : List Instr) (s : State) :
    execAll (bytes.map .opCrcByte ++ is) s =
      execAll is (s.setCrc (bytes.foldl (crcStep s.cfg.crc) s.crcAcc)) := by
  induction bytes generalizing s with
  | nil => rfl
  | cons b bytes ih =>
    rw [List.map_cons, List.cons_append, execAll_cons_of_next (exec_opCrcByte b s), ih]
    rfl

/-- Settles O4: the accumulator starts at `CRC_INIT`, takes each byte, and is read. -/
theorem clearBytesReadComputesCrc16 : Obligations.ClearBytesReadComputesCrc16 := by
  intro bytes s
  rw [execAll_cons_of_next (exec_opCrcClear s), execAll_opCrcByte_append,
    execAll_cons_of_next (exec_opCrcRead _)]
  rfl

/-! ### One frame into an empty buffer -/

/-- With nothing buffered one delimited frame is sliced off and nothing is left (R191). -/
theorem ingest_of_isOneFrame {frame : Bytes} (h : isOneFrame frame = true) :
    ingest [] frame = ([frame], []) := by
  match frame, h with
  | sync :: len :: rest, h =>
    simp only [isOneFrame, Bool.and_eq_true, beq_iff_eq] at h
    obtain ⟨rfl, hsize⟩ := h
    have hlen : (Config.sync :: len :: rest).length = frameSize len := hsize
    have hresync := resync_sync (len :: rest)
    rw [ingest, List.nil_append, List.length_cons,
      ingestLoop_take (len := len) (by rw [hresync]; rfl) (by rw [hresync, hlen]), hresync, ← hlen,
      List.take_length, List.drop_length, ingestLoop_wait (by rfl), resync_nil]

theorem exec_opRxChunk (chunk : Bytes) (s : State) :
    exec (.opRxChunk chunk) s = .next (rxChunk chunk s) := rfl

/-- With nothing buffered `RX_CHUNK` of one delimited frame records what the frame is parsed to (R191). -/
theorem exec_opRxChunk_of_isOneFrame {s : State} {frame : Bytes} (hbuf : s.rxBuf = [])
    (h : isOneFrame frame = true) :
    exec (.opRxChunk frame) s = .next (record s (parseFrame s.cfg s.denomTab frame)) := by
  have hingest : ingest s.rxBuf frame = ([frame], []) := by rw [hbuf, ingest_of_isOneFrame h]
  have hkeep : s.setRxBuf [] = s := by rw [← hbuf]; rfl
  rw [exec_opRxChunk, rxChunk, chunkOutcomes, ingested, hingest, hkeep]
  rfl

/-- A trailer that is not the CRC is a mismatch (R195). -/
theorem parseFrame_frameWith_of_ne {p : Params} (tab : Option DenomTab) {opcode : Byte} {payload : Bytes}
    {w : Word} (h : crc16 p.crc (frameHead opcode payload) ≠ w) :
    parseFrame p tab (frameWith opcode payload w) = .malformed .crcMismatch := by
  have hlong : ¬(frameWith opcode payload w).length < Config.minFrame := by simp
  have hclass : classify p (frameWith opcode payload w) = .crcMismatch := by
    rw [classify, if_neg hlong, frameBody_frameWith, frameTrailer_frameWith, if_pos h]
  rw [parseFrame, hclass]

/-- Changing a payload byte in the frame's head changes the payload (R90). -/
theorem frameHead_set (opcode x : Byte) (payload : Bytes) (i : Nat) :
    (frameHead opcode payload).set (3 + i) x = frameHead opcode (payload.set i x) := by
  rw [Nat.add_comm]
  simp [frameHead]

/-- Changing a payload byte in a frame changes the payload and keeps the trailer (R90). -/
theorem frameWith_set {opcode x : Byte} {payload : Bytes} {i : Nat} (w : Word)
    (hi : i < payload.length) :
    (frameWith opcode payload w).set (3 + i) x = frameWith opcode (payload.set i x) w := by
  have hhead : 3 + i < (frameHead opcode payload).length := by
    rw [length_frameHead]
    omega
  rw [frameWith, List.set_append_left _ _ hhead, frameHead_set, frameWith]

/-- Settles O48: the changed frame has the old trailer, which is not the CRC of its new body. -/
theorem mutatedPayloadByteIsACrcMismatch : Obligations.MutatedPayloadByteIsACrcMismatch := by
  intro s opcode x payload i hbuf hpoly hlen hi hx
  have hframe : isOneFrame (frameWith opcode (payload.set i x)
      (crc16 s.cfg.crc (frameHead opcode payload))) = true :=
    isOneFrame_frameWith _ _ _ (by rwa [List.length_set])
  have hcrc : crc16 s.cfg.crc (frameHead opcode (payload.set i x)) ≠
      crc16 s.cfg.crc (frameHead opcode payload) := by
    rw [← frameHead_set]
    refine changedByteChangesTheCrc _ hpoly _ _ _ (by rw [length_frameHead]; omega) ?_
    rw [Nat.add_comm]
    exact hx
  rw [frameOf, frameWith_set _ hi, exec_opRxChunk_of_isOneFrame hbuf hframe,
    parseFrame_frameWith_of_ne _ hcrc]
  rfl

end Sys2Proof.Machine

/-! PROOFS. The transmit encoder (41_tx_encode.md R150 to R154, R160 to R170), and what the receiver makes of the
image of a command (R157). -/

namespace Sys2Proof

/-! ### Command ids -/

/-- The id of a command names the command (R97). -/
@[simp] theorem CmdName.ofId?_id (c : CmdName) : CmdName.ofId? c.id = some c := by
  cases c <;> rfl

theorem CmdName.id_of_ofId? {id : BitVec 4} {c : CmdName} (h : CmdName.ofId? id = some c) :
    c.id = id := by
  simpa using List.find?_some h

/-- Id 15 is no command (R97). -/
theorem CmdName.id_ne_fifteen (c : CmdName) : c.id ≠ 15 := by
  cases c <;> decide

/-! ### Wire bytes and trailers -/

theorem lo8_le16 (a b : Byte) : lo8 (le16 a b) = a := by
  apply BitVec.eq_of_getLsbD_eq
  intro i hi
  simp [lo8, le16, hi]

theorem hi8_le16 (a b : Byte) : hi8 (le16 a b) = b := by
  apply BitVec.eq_of_getLsbD_eq
  intro i hi
  have hi' : 8 + i < 16 := by omega
  simp [hi8, le16, hi, hi']

/-- Assembling a word from its wire bytes and splitting it again (R94). -/
theorem trailerBytes_le16 (a b : Byte) : trailerBytes (le16 a b) = [a, b] := by
  rw [trailerBytes, lo8_le16, hi8_le16]

/-- The last two bytes of an image stand after its body (R90). -/
theorem exists_eq_frameBody_append {bytes : Bytes} (h : 2 ≤ bytes.length) :
    ∃ a b, bytes = frameBody bytes ++ [a, b] := by
  have hlast : (bytes.drop (bytes.length - 2)).length = 2 := by
    rw [List.length_drop]
    omega
  obtain ⟨a, b, hab⟩ := List.length_eq_two.1 hlast
  exact ⟨a, b, by rw [frameBody, ← hab, List.take_append_drop]⟩

/-- Writing the last two bytes of an image keeps its body. -/
theorem set_set_eq_frameBody_append {bytes : Bytes} (h : 2 ≤ bytes.length) (x y : Byte) :
    (bytes.set (bytes.length - 2) x).set (bytes.length - 1) y = frameBody bytes ++ [x, y] := by
  obtain ⟨a, b, hab⟩ := exists_eq_frameBody_append h
  generalize frameBody bytes = body at hab ⊢
  subst hab
  simp

/-- Sealing is writing the CRC of the body into the last two bytes, low byte first (R151). -/
theorem sealTrailer_eq_set (c : CrcParams) {bytes : Bytes} (h : 2 ≤ bytes.length) :
    sealTrailer c bytes =
      (bytes.set (bytes.length - 2) (lo8 (crc16 c (frameBody bytes)))).set (bytes.length - 1)
        (hi8 (crc16 c (frameBody bytes))) := by
  rw [set_set_eq_frameBody_append h, sealTrailer, trailerBytes]

/-- Sealing a frame replaces its trailer by its CRC (R94). -/
theorem sealTrailer_frameWith (p : Params) (opcode : Byte) (payload : Bytes) (w : Word) :
    sealTrailer p.crc (frameWith opcode payload w) = frameOf p opcode payload := by
  rw [sealTrailer, frameBody_frameWith, frameOf, frameWith]

/-! ### The image of a well-formed template is a frame -/

/-- Bytes that begin with the sync byte and their own length are a frame (R90). -/
theorem exists_eq_frameWith {bytes : Bytes} (hlen : Config.minFrame ≤ bytes.length)
    (hsync : bytes.head? = some Config.sync) (hl : bytes[1]? = some (BitVec.ofNat 8 bytes.length)) :
    ∃ opcode payload w, bytes = frameWith opcode payload w := by
  match bytes, hlen with
  | sync :: len :: opcode :: rest, hlen =>
    obtain rfl : sync = Config.sync := by simpa using hsync
    have hrest : 2 ≤ rest.length := by
      simp only [Config.minFrame, List.length_cons] at hlen
      omega
    obtain ⟨a, b, hab⟩ := exists_eq_frameBody_append hrest
    generalize frameBody rest = payload at hab
    subst hab
    obtain rfl : len = BitVec.ofNat 8 (payload.length + 5) := by simpa using hl
    exact ⟨opcode, payload, le16 a b, by simp [frameWith, frameHead, trailerBytes_le16]⟩

/-- What R150 says of a template without slots, and of one with slots, as a frame: the one has its CRC, the slots of
the other lie in the payload. -/
def Template.FrameSlots (c : CrcParams) (opcode : Byte) (payload : Bytes) (w : Word) (t : Template) : Prop :=
  (t.slots = none ∧ crc16 c (frameHead opcode payload) = w) ∨
    ∃ i j, t.slots = some (3 + i, 3 + j) ∧ i < payload.length ∧ j < payload.length

/-- A well-formed template is a frame (R150). -/
theorem exists_frameWith_of_templateWf {c : CrcParams} {name : CmdName} {t : Template}
    (h : templateWf c name t = true) :
    ∃ opcode payload w, t.bytes = frameWith opcode payload w ∧
      payload.length ≤ Config.maxPayload ∧ t.FrameSlots c opcode payload w := by
  simp only [templateWf, Bool.and_eq_true, decide_eq_true_eq, beq_iff_eq] at h
  obtain ⟨⟨⟨⟨hmin, hmax⟩, hsync⟩, hlen⟩, hslots⟩ := h
  obtain ⟨opcode, payload, w, hframe⟩ := exists_eq_frameWith hmin hsync hlen
  have hlength : t.bytes.length = payload.length + 5 := by rw [hframe, length_frameWith]
  refine ⟨opcode, payload, w, hframe, ?_, ?_⟩
  · simp only [Config.rxCap, Config.maxPayload] at hmax ⊢
    omega
  · split at hslots
    next hs =>
      refine .inl ⟨hs, ?_⟩
      simp only [hframe, frameBody_frameWith, frameTrailer_frameWith, Bool.and_eq_true, beq_iff_eq]
        at hslots
      exact hslots.2
    next i j hs =>
      simp only [Bool.and_eq_true, decide_eq_true_eq, hlength] at hslots
      obtain ⟨⟨⟨⟨-, hi3⟩, hj3⟩, hi⟩, hj⟩ := hslots
      refine .inr ⟨i - 3, j - 3, ?_, by omega, by omega⟩
      rw [hs, Nat.add_sub_cancel' hi3, Nat.add_sub_cancel' hj3]

/-- The image of a command is a frame with its CRC and the template's opcode (R94, R151). -/
theorem exists_commandImage_eq_frameOf {p : Params} {name : CmdName} {t : Template}
    (h : templateWf p.crc name t = true) (p0 p1 : Byte) :
    ∃ opcode payload, commandImage p.crc t p0 p1 = frameOf p opcode payload ∧
      payload.length ≤ Config.maxPayload ∧ t.bytes.length = payload.length + 5 ∧
      t.bytes[2]? = some opcode := by
  obtain ⟨opcode, payload, w, hframe, hmax, hslots⟩ := exists_frameWith_of_templateWf h
  have hlength : t.bytes.length = payload.length + 5 := by rw [hframe, length_frameWith]
  have hopcode : t.bytes[2]? = some opcode := by rw [hframe]; rfl
  rcases hslots with ⟨hs, hcrc⟩ | ⟨i, j, hs, hi, hj⟩
  · refine ⟨opcode, payload, ?_, hmax, hlength, hopcode⟩
    simp only [commandImage, hs, hframe, frameOf, hcrc]
  · refine ⟨opcode, (payload.set i p0).set j p1, ?_, by simpa using hmax, by simpa using hlength,
      hopcode⟩
    simp only [commandImage, hs, hframe]
    rw [Machine.frameWith_set w hi, Machine.frameWith_set w (by rwa [List.length_set]),
      sealTrailer_frameWith]

end Sys2Proof

namespace Sys2Proof.Machine

/-! ### What a frame with its CRC is parsed to -/

@[simp] theorem decodeResponse_opcode? (p : Params) (tab : Option DenomTab) (name : RspName)
    (opcode : Byte) (payload : Bytes) :
    (decodeResponse p tab name opcode payload).opcode? = some opcode := by
  cases name <;> rfl

@[simp] theorem decodeResponse_payload (p : Params) (tab : Option DenomTab) (name : RspName)
    (opcode : Byte) (payload : Bytes) :
    (decodeResponse p tab name opcode payload).payload = payload := by
  cases name <;> rfl

@[simp] theorem decodeResponse_status (p : Params) (tab : Option DenomTab) (name : RspName)
    (opcode : Byte) (payload : Bytes) :
    (decodeResponse p tab name opcode payload).status = 0 := by
  cases name <;> rfl

/-- A frame with its CRC is never malformed; the response table decides whether it is decoded (R196). -/
theorem parseFrame_frameOf (p : Params) (tab : Option DenomTab) (opcode : Byte) (payload : Bytes) :
    (parseFrame p tab (frameOf p opcode payload)).opcode? = some opcode ∧
    (parseFrame p tab (frameOf p opcode payload)).payload = payload ∧
    (parseFrame p tab (frameOf p opcode payload)).status =
      if (rspLookup p opcode).isSome then 0 else 2 := by
  rw [parseFrame, classify_frameOf]
  cases rspLookup p opcode with
  | none => exact ⟨rfl, rfl, rfl⟩
  | some name => simp

/-- Settles O14: the image is one delimited frame with its CRC, which the parser takes whole. -/
theorem encodedCommandComesBackAsOneFrame : Obligations.EncodedCommandComesBackAsOneFrame := by
  intro s c t p0 p1 hbuf _ hwf
  obtain ⟨opcode, payload, himage, hmax, hlength, hopcode⟩ := exists_commandImage_eq_frameOf hwf p0 p1
  obtain ⟨hop, hpayload, hstatus⟩ := parseFrame_frameOf s.cfg s.denomTab opcode payload
  have hsent : ((frameOf s.cfg opcode payload).take (t.bytes.length - 2)).drop 3 = payload := by
    rw [hlength, ← length_frameWith opcode payload (crc16 s.cfg.crc (frameHead opcode payload))]
    exact framePayload_frameWith _ _ _
  have hone : isOneFrame (frameOf s.cfg opcode payload) = true := isOneFrame_frameWith _ _ _ hmax
  refine ⟨parseFrame s.cfg s.denomTab (frameOf s.cfg opcode payload), ?_, ?_, ?_, ?_⟩
  · rw [himage, exec_opRxChunk_of_isOneFrame hbuf hone]
    rfl
  · rw [hop, hopcode]
  · rw [hpayload, himage, hsent]
  · rw [hstatus, List.getD_eq_getElem?_getD, hopcode, Option.getD_some]

/-! ### `op.TX_ENCODE` -/

theorem exec_opTxEncode (id : BitVec 4) (p0 p1 : Byte) (s : State) :
    exec (.opTxEncode id p0 p1) s = .next (txEncodeId id p0 p1 s) := rfl

/-- `TX_ENCODE` of a command's id is `TX_ENCODE` of the command (R97). -/
@[simp] theorem txEncodeId_id (c : CmdName) (p0 p1 : Byte) (s : State) :
    txEncodeId c.id p0 p1 s = txEncode c (some p0) (some p1) s := by
  rw [txEncodeId, CmdName.ofId?_id]

/-- `TX_ENCODE` of an id that no command with a template has (R152). -/
theorem txEncodeId_none {id : BitVec 4} {s : State} (p0 p1 : Byte)
    (h : ∀ c : CmdName, c.id = id → templateLookup s.cfg c = none) :
    txEncodeId id p0 p1 s = s.push [.txErr id] := by
  unfold txEncodeId
  split
  · rfl
  next c hc =>
    obtain rfl := CmdName.id_of_ofId? hc
    exact txEncode_none _ _ (h c rfl)

/-- An image with slots as R151 writes it: the parameters in their slots, then the CRC in the last two bytes. -/
theorem commandImage_of_slots_eq_set (c : CrcParams) {t : Template} {i j : Nat}
    (hs : t.slots = some (i, j)) (hlen : 2 ≤ t.bytes.length) (p0 p1 : Byte) :
    commandImage c t p0 p1 =
      (((t.bytes.set i p0).set j p1).set (t.bytes.length - 2)
        (lo8 (crc16 c (patchedBody t.bytes i j p0 p1)))).set (t.bytes.length - 1)
        (hi8 (crc16 c (patchedBody t.bytes i j p0 p1))) := by
  have hpatched : ((t.bytes.set i p0).set j p1).length = t.bytes.length := by simp
  simp only [commandImage, hs]
  rw [sealTrailer_eq_set c (hpatched ▸ hlen), frameBody, hpatched]

/-- Settles O8, by whether there is a template, and whether it has slots. -/
theorem txEncodeReturnsThePatchedImage : Obligations.TxEncodeReturnsThePatchedImage := by
  refine fun p0 p1 s => ⟨fun id hnone => ?_, fun c t ht hlen => ⟨fun hs => ?_, fun i j hs => ?_⟩⟩
  · rw [exec_opTxEncode, txEncodeId_none p0 p1 hnone]
    rfl
  · rw [exec_opTxEncode, txEncodeId_id, txEncode_stored _ _ ht hs]
    rfl
  · rw [exec_opTxEncode, txEncodeId_id, txEncode_given p0 p1 ht,
      commandImage_of_slots_eq_set s.cfg.crc hs hlen]
    rfl

/-- A command with a template is dispatched, so it raises no `UnknownCommand` (R151, R152). -/
theorem templateLookup_eq_none_of_txErr {c : CmdName} {p0 p1 : Byte} {s : State} {id : BitVec 4}
    (h : txEncode c (some p0) (some p1) s = s.push [.txErr id]) : templateLookup s.cfg c = none := by
  cases ht : templateLookup s.cfg c with
  | none => rfl
  | some t =>
    have hout := congrArg State.out ((txEncode_given p0 p1 ht).symm.trans h)
    simp at hout

/-- Settles O9: the outputs tell a dispatched command from an unknown one, and id 15 is no command. -/
theorem unknownCommandExactlyWithoutTemplate : Obligations.UnknownCommandExactlyWithoutTemplate := by
  refine ⟨fun id p0 p1 s => ⟨fun h c hc => ?_, fun hnone => ?_⟩, fun p0 p1 s => ?_⟩
  · subst hc
    rw [exec_opTxEncode, txEncodeId_id] at h
    exact templateLookup_eq_none_of_txErr (Host.Outcome.next.inj h)
  · rw [exec_opTxEncode, txEncodeId_none p0 p1 hnone]
    rfl
  · rw [exec_opTxEncode, txEncodeId_none p0 p1 fun c hc => absurd hc c.id_ne_fifteen]
    rfl

/-! ### Commands without parameters -/

/-- The instruction is `TX_ENCODE` of a command with the parameters written "-", as the rows of the commands without
parameters are (R160 to R170). -/
def SendsPlain (i : Instr) (c : CmdName) : Prop := ∀ s, exec i s = .next (txEncode c none none s)

theorem SendsPlain.of_stored {i : Instr} {c : CmdName} (h : SendsPlain i c) {s : State} {bytes : Bytes}
    (ht : HasStored s.cfg c bytes) : exec i s = .next (s.push (sends c bytes)) := by
  rw [h s, txEncode_stored _ _ ht rfl, sends]

theorem SendsPlain.of_none {i : Instr} {c : CmdName} (h : SendsPlain i c) {s : State}
    (ht : templateLookup s.cfg c = none) : exec i s = .next (s.push [.txErr c.id]) := by
  rw [h s, txEncode_none _ _ ht]

/-- Settles O10: each of the eleven rows is `TX_ENCODE` of its command without parameters. -/
theorem plainCommandsSendTheirStoredFrame : Obligations.PlainCommandsSendTheirStoredFrame := by
  unfold Obligations.PlainCommandsSendTheirStoredFrame
  simp only [List.forall_mem_cons, List.not_mem_nil, false_imp_iff, implies_true, and_true]
  and_intros <;>
    exact fun s => ⟨fun _ => SendsPlain.of_stored (fun _ => rfl), SendsPlain.of_none (fun _ => rfl)⟩

end Sys2Proof.Machine

/-! PROOFS. Reception (42_rx_ingest.md R191 to R199): what one byte does to a buffer that satisfies INV_RX, that the
parser does not see how the bytes are cut into chunks, what one frame is parsed to, and the byte-serial receiver
(10_state.md R24). -/

namespace Sys2Proof

/-! ### The parser and the way bytes are cut -/

/-- The parser sees its input from the first sync byte on (R70, R191). -/
theorem ingest_resync (buf : Bytes) : ingest [] (resync buf) = ingest [] buf := by
  have hle := resync_length_le buf
  have hfuel : ingest [] (resync buf) = ingestLoop buf.length (resync buf) :=
    (ingestLoop_fuel _ _ hle).symm
  rw [hfuel, ingest, List.nil_append]
  cases buf.length <;> simp only [ingestLoop, resync_resync]

/-- The bytes left are parsed together with the next chunk (R191). -/
theorem ingest_nil_append (buf chunk : Bytes) : ingest [] (buf ++ chunk) = ingest buf chunk := rfl

/-- A complete frame at the front is sliced off, and the bytes after it are parsed as if alone (R191). -/
theorem ingest_take {buf : Bytes} {len : Byte} (h : (resync buf)[1]? = some len)
    (hl : frameSize len ≤ (resync buf).length) :
    ingest [] buf = ((resync buf).take (frameSize len) ::
      (ingest [] ((resync buf).drop (frameSize len))).1,
      (ingest [] ((resync buf).drop (frameSize len))).2) := by
  have hd := drop_frame_length hl
  obtain ⟨fuel, hf⟩ : ∃ k, buf.length = k + 1 := ⟨buf.length - 1, by omega⟩
  rw [ingest, List.nil_append, hf, ingestLoop_take h hl, ingestLoop_fuel fuel _ (by omega)]
  rfl

/-- A resynchronised buffer with a second byte stays at the front when bytes follow. -/
theorem resync_append_of_getElem? {buf : Bytes} {len : Byte} (h : (resync buf)[1]? = some len)
    (chunk : Bytes) : resync (buf ++ chunk) = resync buf ++ chunk := by
  rw [resync_append]
  rcases resync_cases buf with hnil | ⟨rest, hsync⟩
  · simp [hnil] at h
  · rw [hsync, List.cons_append, resync_sync]

/-- Parsing two chunks one after the other is parsing them at once (R198), by the rounds of the loop on the first. -/
theorem ingest_append_of_nil (a b : Bytes) :
    ingest [] (a ++ b) =
      ((ingest [] a).1 ++ (ingest (ingest [] a).2 b).1, (ingest (ingest [] a).2 b).2) := by
  have hwait : ingest [] a = ([], resync a) → ingest [] (a ++ b) =
      ((ingest [] a).1 ++ (ingest (ingest [] a).2 b).1, (ingest (ingest [] a).2 b).2) := by
    intro ha
    rw [ha, ← ingest_resync (a ++ b), resync_append, ingest_resync]
    rfl
  rcases ingest_round a with h | ⟨len, h, hl⟩ | ⟨len, h, hl⟩
  · exact hwait (ingestLoop_wait h _)
  · exact hwait (ingestLoop_partial h hl _)
  · have hshort := drop_frame_length hl
    have hfront := resync_append_of_getElem? h b
    have h' : (resync (a ++ b))[1]? = some len := by
      rw [hfront, List.getElem?_append_left (by have := frameSize_ge len; omega), h]
    have hl' : frameSize len ≤ (resync (a ++ b)).length := by
      rw [hfront, List.length_append]
      omega
    rw [ingest_take h hl, ingest_take h' hl', hfront, List.take_append_of_le_length hl,
      List.drop_append_of_le_length hl, ingest_append_of_nil ((resync a).drop (frameSize len)) b]
    rfl
termination_by a.length
decreasing_by
  exact Nat.lt_of_lt_of_le (Nat.lt_add_of_pos_right Nat.two_pos) hshort

/-- Parsing two chunks one after the other is parsing them at once, whatever is buffered (R198). -/
theorem ingest_append (buf a b : Bytes) :
    ingest buf (a ++ b) =
      ((ingest buf a).1 ++ (ingest (ingest buf a).2 b).1, (ingest (ingest buf a).2 b).2) := by
  simpa only [ingest_nil_append, List.append_assoc] using ingest_append_of_nil (buf ++ a) b

/-- Bytes without a sync byte are dropped (R193). -/
theorem resync_append_of_noise {noise : Bytes} (h : Config.sync ∉ noise) (bytes : Bytes) :
    resync (noise ++ bytes) = resync bytes :=
  List.dropWhile_append_of_pos fun b hb => by simpa using ne_of_mem_of_not_mem hb h

/-- Noise before the bytes changes nothing for the parser (R193, R199). -/
theorem ingest_noise_append {noise : Bytes} (h : Config.sync ∉ noise) (bytes : Bytes) :
    ingest [] (noise ++ bytes) = ingest [] bytes := by
  rw [← ingest_resync, resync_append_of_noise h, ingest_resync]

/-! ### One byte after a buffer that satisfies INV_RX -/

/-- INV_RX of a buffer that holds a length byte (R23). -/
theorem rxInv_cons_cons {b len : Byte} {rest : Bytes} :
    Machine.rxInv (b :: len :: rest) = true ↔ b = Config.sync ∧ rest.length + 2 < len.toNat := by
  simp [Machine.rxInv]

theorem rxInv_singleton {b : Byte} : Machine.rxInv [b] = true ↔ b = Config.sync := by
  simp [Machine.rxInv]

/-- One delimited frame, from its bytes (R191). -/
theorem isOneFrame_cons_cons {b len : Byte} {rest : Bytes} :
    isOneFrame (b :: len :: rest) = true ↔
      b = Config.sync ∧ rest.length + 2 = max len.toNat 2 := by
  simp [isOneFrame, frameSize]

/-- Bytes that satisfy INV_RX are an incomplete frame: they are kept (R191). -/
theorem ingest_of_rxInv {buf chunk : Bytes} (h : Machine.rxInv (buf ++ chunk) = true) :
    ingest buf chunk = ([], buf ++ chunk) := by
  rw [← ingest_nil_append]
  generalize buf ++ chunk = bytes at h ⊢
  match bytes with
  | [] => rfl
  | [b] =>
    obtain rfl := rxInv_singleton.1 h
    rfl
  | b :: len :: rest =>
    obtain ⟨rfl, hlen⟩ := rxInv_cons_cons.1 h
    have hresync := resync_sync (len :: rest)
    rw [ingest, List.nil_append, ingestLoop_partial (len := len) (by rw [hresync]; rfl), hresync]
    rw [hresync, frameSize]
    simp only [List.length_cons]
    omega

/-- One byte after a buffer that satisfies INV_RX is noise, continues the frame, or completes it (R192, R193). -/
theorem rxInv_append_byte_cases {buf : Bytes} (h : Machine.rxInv buf = true) (b : Byte) :
    (buf = [] ∧ b ≠ Config.sync) ∨ Machine.rxInv (buf ++ [b]) = true ∨
      isOneFrame (buf ++ [b]) = true := by
  match buf with
  | [] =>
    by_cases hb : b = Config.sync
    · exact .inr (.inl (rxInv_singleton.2 hb))
    · exact .inl ⟨rfl, hb⟩
  | [x] =>
    have hx := rxInv_singleton.1 h
    rcases Nat.lt_or_ge 2 b.toNat with hlen | hlen
    · exact .inr (.inl (rxInv_cons_cons.2 ⟨hx, hlen⟩))
    · exact .inr (.inr (isOneFrame_cons_cons.2 ⟨hx, (Nat.max_eq_right hlen).symm⟩))
  | x :: len :: rest =>
    obtain ⟨hx, hlen⟩ := rxInv_cons_cons.1 h
    rcases Nat.lt_or_ge (rest.length + 3) len.toNat with hlt | hge
    · refine .inr (.inl (rxInv_cons_cons.2 ⟨hx, ?_⟩))
      simpa using hlt
    · refine .inr (.inr (isOneFrame_cons_cons.2 ⟨hx, ?_⟩))
      simp only [List.append_eq, List.length_append, List.length_singleton]
      omega

end Sys2Proof

namespace Sys2Proof.Machine

/-! ### `RX_CHUNK` and `RX_BYTE` -/

theorem exec_opRxByte (b : Byte) (s : State) : exec (.opRxByte b) s = .next (rxChunk [b] s) := rfl

/-- `RX_CHUNK` reads the buffer through the parser alone. -/
theorem rxChunk_eq_of_ingest_eq {s : State} {a b : Bytes} (h : ingest s.rxBuf a = ingest s.rxBuf b) :
    rxChunk a s = rxChunk b s := by
  simp only [rxChunk, chunkOutcomes, ingested, h]

/-- `RX_CHUNK` without an outcome sets the buffer only. -/
theorem rxChunk_of_ingest_nil {s : State} {chunk buf : Bytes} (h : ingest s.rxBuf chunk = ([], buf)) :
    rxChunk chunk s = s.setRxBuf buf := by
  simp only [rxChunk, chunkOutcomes, ingested, h, List.map_nil, List.foldl_nil]

/-- A byte of noise changes nothing (R193). -/
theorem rxChunk_noise {s : State} {b : Byte} (hbuf : s.rxBuf = []) (hb : b ≠ Config.sync) :
    rxChunk [b] s = s := by
  have hnone : ingest s.rxBuf [b] = ([], s.rxBuf) := by
    rw [hbuf]
    exact ingest_noise_append (noise := [b]) (by simpa using hb.symm) []
  rw [rxChunk_of_ingest_nil hnone, State.setRxBuf_self]

/-- Bytes that leave the frame incomplete are buffered (R191). -/
theorem rxChunk_of_rxInv {s : State} {chunk : Bytes} (h : rxInv (s.rxBuf ++ chunk) = true) :
    rxChunk chunk s = s.setRxBuf (s.rxBuf ++ chunk) :=
  rxChunk_of_ingest_nil (ingest_of_rxInv h)

/-- Bytes that complete the buffered frame give its outcome and empty the buffer (R191). -/
theorem rxChunk_of_isOneFrame {s : State} {chunk : Bytes} (h : isOneFrame (s.rxBuf ++ chunk) = true) :
    rxChunk chunk s =
      record (s.setRxBuf []) (parseFrame s.cfg s.denomTab (s.rxBuf ++ chunk)) := by
  have hone : ingest s.rxBuf chunk = ([s.rxBuf ++ chunk], []) := ingest_of_isOneFrame h
  rw [rxChunk, chunkOutcomes, ingested, hone]
  rfl

/-- Outcomes on the frame-out port do not depend on the receive buffer. -/
theorem foldl_record_setRxBuf (l : List FrameOutcome) (buf : Bytes) (s : State) :
    l.foldl record (s.setRxBuf buf) = (l.foldl record s).setRxBuf buf := by
  induction l generalizing s with
  | nil => rfl
  | cons o l ih => exact ih (record s o)

/-- The outcomes of two chunks are those of the first, then those of the second (R198). -/
theorem chunkOutcomes_append (a b : Bytes) (s : State) :
    chunkOutcomes s (a ++ b) = chunkOutcomes s a ++ chunkOutcomes (rxChunk a s) b := by
  simp [chunkOutcomes, ingest_append]

/-- `RX_CHUNK` records its outcomes and leaves the parser's buffer, in either order. -/
theorem rxChunk_eq_setRxBuf (chunk : Bytes) (s : State) :
    rxChunk chunk s =
      ((chunkOutcomes s chunk).foldl record s).setRxBuf (ingest s.rxBuf chunk).2 := by
  rw [rxChunk, ingested, foldl_record_setRxBuf]

/-- `RX_CHUNK` of two chunks one after the other is `RX_CHUNK` of both at once (R198). -/
theorem rxChunk_append (a b : Bytes) (s : State) : rxChunk (a ++ b) s = rxChunk b (rxChunk a s) := by
  have hbuf : (ingest s.rxBuf (a ++ b)).2 = (ingest (rxChunk a s).rxBuf b).2 := by
    rw [ingest_append, rxChunk_rxBuf]
  rw [rxChunk_eq_setRxBuf b, rxChunk_eq_setRxBuf (a ++ b), chunkOutcomes_append, List.foldl_append,
    ← hbuf]
  generalize chunkOutcomes (rxChunk a s) b = outcomes
  rw [rxChunk_eq_setRxBuf a, foldl_record_setRxBuf, State.setRxBuf_setRxBuf]

/-- `RX_CHUNK` of no bytes changes nothing when INV_RX holds. -/
theorem rxChunk_nil {s : State} (h : rxInv s.rxBuf = true) : rxChunk [] s = s := by
  rw [rxChunk_of_rxInv (by rwa [List.append_nil]), List.append_nil, State.setRxBuf_self]

/-- `RX_BYTE` of the bytes of a chunk in order is `RX_CHUNK` of the chunk (R192). -/
theorem execAll_map_opRxByte (chunk : Bytes) {s : State} (h : rxInv s.rxBuf = true) :
    execAll (chunk.map .opRxByte) s = .next (rxChunk chunk s) := by
  induction chunk generalizing s with
  | nil =>
    rw [rxChunk_nil h]
    rfl
  | cons b bytes ih =>
    have hbyte : rxInv (rxChunk [b] s).rxBuf = true := by
      rw [rxChunk_rxBuf]
      exact ingest_rxInv _ _
    rw [List.map_cons, execAll_cons_of_next (exec_opRxByte b s), ih hbyte, ← rxChunk_append]
    rfl

/-- Settles O41: a byte is noise, is kept, or completes the one buffered frame; chunks split anywhere. -/
theorem receivingByteByByte : Obligations.ReceivingByteByByte := by
  intro s h
  refine ⟨fun b => ⟨rxChunk [b] s, exec_opRxByte b s, exec_opRxChunk [b] s, ?_⟩, fun chunk =>
    ⟨rxChunk chunk s, exec_opRxChunk chunk s, execAll_map_opRxByte chunk h⟩⟩
  rcases rxInv_append_byte_cases h b with ⟨hbuf, hb⟩ | hkept | hone
  · rw [rxChunk_noise hbuf hb]
    exact .inl rfl
  · rw [rxChunk_of_rxInv hkept]
    exact .inl rfl
  · rw [rxChunk_of_isOneFrame hone]
    exact .inr ⟨_, rfl⟩

/-- Settles O42: the parser takes two chunks one after the other as it takes both at once. -/
theorem chunkingDoesNotMatter : Obligations.ChunkingDoesNotMatter := by
  refine fun a b s => ⟨rxChunk (a ++ b) s, exec_opRxChunk _ s, ?_⟩
  rw [execAll_cons_of_next (exec_opRxChunk a s), execAll_cons_of_next (exec_opRxChunk b _),
    ← rxChunk_append]
  rfl

/-- Settles O45: the parser drops everything before the first sync byte. -/
theorem noiseBeforeAFrameIsDiscarded : Obligations.NoiseBeforeAFrameIsDiscarded := by
  intro noise bytes s hbuf hnoise
  have hsame : ingest s.rxBuf (noise ++ bytes) = ingest s.rxBuf bytes := by
    rw [hbuf, ingest_noise_append hnoise]
  exact ⟨rxChunk bytes s, by rw [exec_opRxChunk, rxChunk_eq_of_ingest_eq hsame], exec_opRxChunk _ s⟩

/-- Settles O40: noise is dropped, and the sync byte alone satisfies INV_RX. -/
theorem noiseIsDiscardedAndSyncIsHeld : Obligations.NoiseIsDiscardedAndSyncIsHeld := by
  refine fun s hbuf => ⟨fun b hb => ?_, ?_⟩
  · rw [exec_opRxByte, rxChunk_noise hbuf hb]
  · have hsync : rxInv (s.rxBuf ++ [Config.sync]) = true := by rw [hbuf]; rfl
    rw [exec_opRxByte, rxChunk_of_rxInv hsync, hbuf]
    rfl

/-! ### What one frame is parsed to -/

/-- A frame below the minimum is too short (R194). -/
theorem parseFrame_of_short {p : Params} (tab : Option DenomTab) {frame : Bytes}
    (h : frame.length < Config.minFrame) : parseFrame p tab frame = .malformed .tooShort := by
  rw [parseFrame, classify, if_pos h]

/-- A frame that is long enough is tested for its CRC, then for its opcode (R195, R196). -/
theorem parseFrame_frameWith (p : Params) (tab : Option DenomTab) (opcode : Byte) (payload : Bytes)
    (w : Word) :
    parseFrame p tab (frameWith opcode payload w) =
      if crc16 p.crc (frameHead opcode payload) ≠ w then .malformed .crcMismatch
      else match rspLookup p opcode with
        | none => .unknownResponse opcode payload
        | some name => decodeResponse p tab name opcode payload := by
  by_cases hcrc : crc16 p.crc (frameHead opcode payload) = w
  · subst hcrc
    rw [if_neg (not_not_intro rfl), ← frameOf, parseFrame, classify_frameOf]
    cases rspLookup p opcode <;> rfl
  · rw [if_pos hcrc, parseFrame_frameWith_of_ne tab hcrc]

/-- Settles O46: one delimited frame is taken whole; the parser tests its length, its CRC and its opcode. -/
theorem oneFrameIsParsedByLengthCrcOpcode : Obligations.OneFrameIsParsedByLengthCrcOpcode := by
  refine fun s hbuf => ⟨fun len rest hlen hrest => ?_, fun opcode payload trailer hmax => ?_⟩
  · have hshort : (Config.sync :: len :: rest).length < Config.minFrame := by
      simp only [List.length_cons, hrest, Config.minFrame]
      omega
    rw [exec_opRxChunk_of_isOneFrame hbuf (isOneFrame_cons_cons.2 ⟨rfl, hrest⟩),
      parseFrame_of_short _ hshort]
    rfl
  · have hone := isOneFrame_frameWith opcode payload trailer hmax
    refine (exec_opRxChunk_of_isOneFrame hbuf hone).trans ?_
    rw [parseFrame_frameWith]
    rfl

end Sys2Proof.Machine

namespace Sys2Proof.Machine

/-! ### The byte-serial receiver -/

section Holds

variable {p : CrcParams} {r : RxRegs}

/-- The registers of an empty buffer (R24). -/
theorem RxRegs.holds_nil : r.holds p [] ↔ r.phase = .hunt ∧ r.mem = [] ∧ r.cnt.toNat = 0 := by
  refine ⟨fun ⟨hphase, hmem, hcnt, _⟩ => ⟨hphase, hmem, hcnt⟩, fun ⟨hphase, hmem, hcnt⟩ => ?_⟩
  exact ⟨hphase, hmem, hcnt, by simp [hphase], by simp [hphase]⟩

/-- The registers of a buffer that holds the sync byte alone (R24). -/
theorem RxRegs.holds_singleton {x : Byte} :
    r.holds p [x] ↔ r.phase = .len ∧ r.mem = [x] ∧ r.cnt.toNat = 1 ∧ r.crc = p.init := by
  constructor
  · rintro ⟨hphase, hmem, hcnt, -, hcrc⟩
    exact ⟨hphase, hmem, hcnt, hcrc (hphase ▸ RxPhase.noConfusion)⟩
  · rintro ⟨hphase, hmem, hcnt, hcrc⟩
    exact ⟨hphase, hmem, hcnt, by simp [hphase], fun _ => hcrc⟩

/-- The registers of a buffer that holds a length byte (R24, R197). -/
theorem RxRegs.holds_cons_cons {x len : Byte} {rest : Bytes} :
    r.holds p (x :: len :: rest) ↔
      r.phase = .body ∧ r.mem = x :: len :: rest ∧ r.cnt.toNat = rest.length + 2 ∧ r.lenReg = len ∧
        r.crc = (frameBody (x :: len :: rest)).foldl (crcStep p) p.init := by
  constructor
  · rintro ⟨hphase, hmem, hcnt, hlen, hcrc⟩
    exact ⟨hphase, hmem, hcnt, (Option.some.inj (hlen hphase)).symm,
      hcrc (hphase ▸ RxPhase.noConfusion)⟩
  · rintro ⟨hphase, hmem, hcnt, hlen, hcrc⟩
    exact ⟨hphase, hmem, hcnt, fun _ => congrArg some hlen.symm, fun _ => hcrc⟩

/-- The running CRC after a byte in the body phase: the byte two positions behind it has gone in (R197). -/
theorem serialCrc_of_holds {x len : Byte} {rest : Bytes} (h : r.holds p (x :: len :: rest)) (b : Byte) :
    serialCrc p r = (frameBody (x :: len :: (rest ++ [b]))).foldl (crcStep p) p.init := by
  obtain ⟨-, hmem, hcnt, -, hcrc⟩ := RxRegs.holds_cons_cons.1 h
  have hstep : serialCrc p r = r.mem[r.cnt.toNat - 2]?.toList.foldl (crcStep p) r.crc := by
    rw [serialCrc]
    cases r.mem[r.cnt.toNat - 2]? <;> rfl
  have hcover : frameBody (x :: len :: (rest ++ [b])) =
      frameBody (x :: len :: rest) ++ (x :: len :: rest)[rest.length]?.toList := by
    have hle : rest.length + 1 ≤ (x :: len :: rest).length := Nat.le_succ _
    have hbody : frameBody (x :: len :: (rest ++ [b])) =
        (x :: len :: rest ++ [b]).take (rest.length + 1) := by simp [frameBody]
    rw [hbody, List.take_append_of_le_length hle, List.take_add_one]
    rfl
  rw [hstep, hmem, hcnt, hcrc, hcover, List.foldl_append, Nat.add_sub_cancel]

end Holds

section Serial

variable {p : Params} (tab : Option DenomTab) {r : RxRegs} {b : Byte}

/-- With the running CRC over the frame's body, the byte-serial parser answers what `PARSE` answers (R197). -/
theorem serialParse_eq_parseFrame (p : Params) (frame : Bytes) :
    serialParse p tab frame ((frameBody frame).foldl (crcStep p.crc) p.crc.init) =
      parseFrame p tab frame := by
  have hcrc : crcFinish p.crc ((frameBody frame).foldl (crcStep p.crc) p.crc.init) =
    crc16 p.crc (frameBody frame) := rfl
  simp only [serialParse, parseFrame, classify, hcrc]
  split
  · rfl
  · split
    · rfl
    · cases rspLookup p (frame.getD 2 0) <;> rfl

/-- The hunt phase drops everything but the sync byte (R193). -/
theorem serialByte_noise (h : r.phase = .hunt) (hb : b ≠ Config.sync) :
    serialByte p tab r b = (none, r) := by
  simp only [serialByte, h, if_neg hb]

theorem serialByte_sync (h : r.phase = .hunt) :
    serialByte p tab r Config.sync =
      (none, { r with phase := .len, cnt := 1, mem := [Config.sync], crc := p.crc.init }) := by
  simp only [serialByte, h, if_true]

/-- The length phase waits for a body, when the length leaves room for one (R24). -/
theorem serialByte_len (h : r.phase = .len) (hb : 2 < b.toNat) :
    serialByte p tab r b =
      (none, { r with phase := .body, lenReg := b, cnt := 2, mem := r.mem ++ [b] }) := by
  simp only [serialByte, h, if_neg (Nat.not_le.2 hb)]

/-- A length of at most 2 is a frame at once (R194). -/
theorem serialByte_len_short (h : r.phase = .len) (hb : b.toNat ≤ 2) :
    serialByte p tab r b = (some (.malformed .tooShort),
      { r with phase := .hunt, lenReg := b, cnt := 0, mem := [] }) := by
  simp only [serialByte, h, if_pos hb]

/-- The body phase counts bytes as long as more are to come (R197). -/
theorem serialByte_body (h : r.phase = .body) (hmore : r.cnt + 1 ≠ r.lenReg) :
    serialByte p tab r b =
      (none, { r with cnt := r.cnt + 1, mem := r.mem ++ [b], crc := serialCrc p.crc r }) := by
  simp only [serialByte, h, if_neg hmore]

/-- The body phase parses the frame at its last byte (R197). -/
theorem serialByte_body_last (h : r.phase = .body) (hlast : r.cnt + 1 = r.lenReg) :
    serialByte p tab r b = (some (serialParse p tab (r.mem ++ [b]) (serialCrc p.crc r)),
      { r with phase := .hunt, cnt := 0, mem := [], crc := serialCrc p.crc r }) := by
  simp only [serialByte, h, if_pos hlast]

/-- The count does not wrap at a byte of a frame: the length byte bounds it. -/
theorem toNat_cnt_add_one {cnt len : Byte} {n : Nat} (hcnt : cnt.toNat = n) (hn : n < len.toNat) :
    (cnt + 1).toNat = n + 1 := by
  subst hcnt
  bv_omega

/-- A byte that leaves the frame incomplete gives no outcome and goes into the registers (R24, R197). -/
theorem serialByte_of_rxInv {buf : Bytes} (h : r.holds p.crc buf) (hkept : rxInv (buf ++ [b]) = true) :
    (serialByte p tab r b).1 = none ∧ (serialByte p tab r b).2.holds p.crc (buf ++ [b]) := by
  match buf with
  | [] =>
    obtain ⟨hphase, -, -⟩ := RxRegs.holds_nil.1 h
    obtain rfl := rxInv_singleton.1 hkept
    rw [serialByte_sync tab hphase]
    exact ⟨rfl, RxRegs.holds_singleton.2 ⟨rfl, rfl, rfl, rfl⟩⟩
  | [x] =>
    obtain ⟨hphase, hmem, -, hcrc⟩ := RxRegs.holds_singleton.1 h
    obtain ⟨-, hlen⟩ := rxInv_cons_cons.1 hkept
    rw [serialByte_len tab hphase hlen, hmem]
    exact ⟨rfl, RxRegs.holds_cons_cons.2 ⟨rfl, rfl, rfl, rfl, hcrc⟩⟩
  | x :: len :: rest =>
    obtain ⟨hphase, hmem, hcnt, hlenReg, -⟩ := RxRegs.holds_cons_cons.1 h
    have hlen : rest.length + 3 < len.toNat := by simpa using (rxInv_cons_cons.1 hkept).2
    have hnext : (r.cnt + 1).toNat = rest.length + 3 := toNat_cnt_add_one (len := len) hcnt (by omega)
    have hmore : r.cnt + 1 ≠ r.lenReg := by
      intro heq
      rw [heq, hlenReg] at hnext
      omega
    rw [serialByte_body tab hphase hmore, hmem, serialCrc_of_holds h b]
    exact ⟨rfl, RxRegs.holds_cons_cons.2 ⟨hphase, rfl, by simpa using hnext, hlenReg, rfl⟩⟩

/-- A byte that completes the frame gives the outcome of `PARSE` and the registers of the empty buffer (R197). -/
theorem serialByte_of_isOneFrame {buf : Bytes} (h : r.holds p.crc buf) (hinv : rxInv buf = true)
    (hone : isOneFrame (buf ++ [b]) = true) :
    (serialByte p tab r b).1 = some (parseFrame p tab (buf ++ [b])) ∧
      (serialByte p tab r b).2.holds p.crc [] := by
  match buf with
  | [] => cases hone
  | [x] =>
    obtain ⟨hphase, -, -, -⟩ := RxRegs.holds_singleton.1 h
    have hlen : b.toNat ≤ 2 := by simpa using (isOneFrame_cons_cons.1 hone).2.symm
    have hshort : ([x] ++ [b]).length < Config.minFrame := by simp [Config.minFrame]
    rw [serialByte_len_short tab hphase hlen, parseFrame_of_short tab hshort]
    exact ⟨rfl, RxRegs.holds_nil.2 ⟨rfl, rfl, rfl⟩⟩
  | x :: len :: rest =>
    obtain ⟨hphase, hmem, hcnt, hlenReg, -⟩ := RxRegs.holds_cons_cons.1 h
    obtain ⟨-, hroom⟩ := rxInv_cons_cons.1 hinv
    have hlen : rest.length + 3 = len.toNat := by
      have hsize : rest.length + 3 = max len.toNat 2 := by
        simpa using (isOneFrame_cons_cons.1 hone).2
      omega
    have hlast : r.cnt + 1 = r.lenReg := by
      rw [hlenReg]
      exact BitVec.eq_of_toNat_eq ((toNat_cnt_add_one hcnt hroom).trans hlen)
    rw [serialByte_body_last tab hphase hlast, hmem, serialCrc_of_holds h b]
    exact ⟨congrArg some (serialParse_eq_parseFrame tab p (x :: len :: (rest ++ [b]))),
      RxRegs.holds_nil.2 ⟨rfl, rfl, rfl⟩⟩

end Serial

/-- Settles O47: at noise, at a byte that is kept and at one that completes the frame, both receivers do the
same. -/
theorem serialReceiverRefinesTheBuffer : Obligations.SerialReceiverRefinesTheBuffer := by
  intro s r b hinv h
  refine ⟨rxChunk [b] s, exec_opRxByte b s, ?_⟩
  rcases rxInv_append_byte_cases hinv b with ⟨hbuf, hb⟩ | hkept | hone
  · obtain ⟨hphase, -, -⟩ := RxRegs.holds_nil.1 (hbuf ▸ h)
    rw [rxChunk_noise hbuf hb, serialByte_noise s.denomTab hphase hb]
    exact ⟨h, (List.append_nil _).symm⟩
  · obtain ⟨hnone, hregs⟩ := serialByte_of_rxInv s.denomTab h hkept
    rw [rxChunk_of_rxInv hkept, hnone]
    exact ⟨hregs, (List.append_nil _).symm⟩
  · obtain ⟨hsome, hregs⟩ := serialByte_of_isOneFrame s.denomTab h hinv hone
    rw [rxChunk_of_isOneFrame hone, hsome]
    exact ⟨hregs, rfl⟩

end Sys2Proof.Machine

/-! PROOFS. Payload decoding (43_payload_decode.md R231 to R246): the runs of a `denominations` payload, and what a
response whose event is admitted publishes of the data decoded from its payload (44_fsm.md R281 to R288). -/

namespace Sys2Proof.Machine

/-! ### The runs of a `denominations` payload -/

/-- A payload that does not begin with four bytes is shorter than that. -/
theorem length_lt_four_of_no_run {payload : Bytes}
    (h : ∀ code skipped sig exp rest, payload = code :: skipped :: sig :: exp :: rest → False) :
    payload.length < 4 := by
  match payload with
  | [] | [_] | [_, _] | [_, _, _] => simp
  | _ :: _ :: _ :: _ :: _ => exact absurd rfl (h _ _ _ _ _)

/-- The entry that the four bytes from `4 * k` on give, if their significand is not 0 (R233). -/
def denomRun (payload : Bytes) (k : Nat) : Option DenomEntry :=
  if payload.getD (4 * k + 2) 0 = 0 then none
  else some ⟨payload.getD (4 * k) 0, payload.getD (4 * k + 2) 0, payload.getD (4 * k + 3) 0⟩

theorem denomRun_zero (code skipped sig exp : Byte) (rest : Bytes) :
    denomRun (code :: skipped :: sig :: exp :: rest) 0 =
      if sig = 0 then none else some ⟨code, sig, exp⟩ := rfl

theorem denomRun_succ (code skipped sig exp : Byte) (rest : Bytes) (k : Nat) :
    denomRun (code :: skipped :: sig :: exp :: rest) (k + 1) = denomRun rest k := rfl

theorem denomEntries_run (code skipped sig exp : Byte) (rest : Bytes) :
    denomEntries (code :: skipped :: sig :: exp :: rest) =
      (if sig = 0 then none else some ⟨code, sig, exp⟩).toList ++ denomEntries rest := by
  rw [denomEntries]
  split <;> rfl

/-- The runs of a payload are its first run and those of what follows it. -/
theorem filterMap_denomRun (code skipped sig exp : Byte) (rest : Bytes) :
    (List.range ((code :: skipped :: sig :: exp :: rest).length / 4)).filterMap
        (denomRun (code :: skipped :: sig :: exp :: rest)) =
      (if sig = 0 then none else some ⟨code, sig, exp⟩).toList ++
        (List.range (rest.length / 4)).filterMap (denomRun rest) := by
  have hlen : (code :: skipped :: sig :: exp :: rest).length / 4 = rest.length / 4 + 1 := by
    simp only [List.length_cons]
    omega
  rw [hlen, List.range_succ_eq_map, List.filterMap_cons, List.filterMap_map, denomRun_zero]
  simp only [Function.comp_def, denomRun_succ]
  split <;> simp_all

/-- Settles O39, by induction on the runs: the significand is 0, it is not, or fewer than four bytes are left. -/
theorem denominationEntriesAreFourByteRuns : Obligations.DenominationEntriesAreFourByteRuns := by
  intro payload
  change denomEntries payload = (List.range (payload.length / 4)).filterMap (denomRun payload)
  induction payload using denomEntries.induct with
  | case1 code skipped exp rest ih => rw [denomEntries_run, filterMap_denomRun, ih]
  | case2 code skipped sig exp rest hsig ih => rw [denomEntries_run, filterMap_denomRun, ih]
  | case3 payload hshort =>
    rw [Nat.div_eq_of_lt (length_lt_four_of_no_run hshort)]
    simp [denomEntries]

/-! ### Emits and frames among outputs -/

@[simp] theorem emitsOf_append (a b : List Output) : emitsOf (a ++ b) = emitsOf a ++ emitsOf b :=
  List.filterMap_append

@[simp] theorem txOf_append (a b : List Output) : txOf (a ++ b) = txOf a ++ txOf b :=
  List.filterMap_append

@[simp] theorem emitsOf_map_emit (l : List DomainEvent) : emitsOf (l.map .emit) = l := by
  simp [emitsOf, List.filterMap_map]

@[simp] theorem txOf_map_emit (l : List DomainEvent) : txOf (l.map .emit) = [] := by
  simp [txOf]

@[simp] theorem emitsOf_armOutputs (mode : StuckMode) (t : StateName) :
    emitsOf (armOutputs mode t) = [] := by
  unfold armOutputs
  split <;> rfl

@[simp] theorem txOf_armOutputs (mode : StuckMode) (t : StateName) : txOf (armOutputs mode t) = [] := by
  unfold armOutputs
  split <;> rfl

/-! ### A response whose event is admitted -/

/-- The glue publishes the emit and does nothing else with it (R335 to R338). -/
def DomainEvent.JustPublished (e : DomainEvent) : Prop := ∀ s, afterEmit s e = s.push [.emit e]

theorem exitEmits_justPublished (src : StateName) : ∀ e ∈ exitEmits src, e.JustPublished := by
  unfold exitEmits
  split
  · exact List.forall_mem_singleton.2 fun _ => rfl
  · exact fun _ h => nomatch h

/-- An admitted event whose hooks' emits are just published and which dispatches nothing: the transition, then the
emits (R266, R354). -/
theorem react_of_justPublished {ev : Event} {data : EventData} {s : State} {t : StateName}
    (hn : nextState s.cfg.rules ev s.fsmState = some t)
    (he : ∀ e ∈ entryEmits t s.fsmState data, e.JustPublished)
    (hd : ∀ flag, entryDispatches t s.fsmState flag = []) :
    react ev data s = (transition t s).push
      ((readyIf s.fsmState ++ entryEmits t s.fsmState data).map .emit) := by
  have hemits := foldl_eq_push (f := afterEmit) (outputs := fun e => [.emit e])
    (l := exitEmits s.fsmState ++ entryEmits t s.fsmState data) (s := transition t s)
    (fun e hmem u _ => (List.mem_append.1 hmem).elim (exitEmits_justPublished _ e) (he e) u) rfl
  rw [react, fsmEvent_some data hn, after, hd, List.foldl_nil, hemits, exitEmits_eq_readyIf,
    List.map_eq_flatMap]

section

variable {name : RspName} {override : Option RspName} {data : EventData} {opcode : Byte} {payload : Bytes}
  {ev : Event} {s : State} {t : StateName}

/-- A decoded response reaches the glue as its (overriding) event, after its record and `msg_seen` (R331). -/
theorem receive_decoded (hev : (override.getD name).event? = some ev) :
    receive s (.decoded name override data opcode payload) =
      react ev data ((record s (.decoded name override data opcode payload)).push [.msgSeen]) := by
  simp only [receive, handle, hev]

theorem entered_receive_decoded (hev : (override.getD name).event? = some ev)
    (hn : nextState s.cfg.rules ev s.fsmState = some t) :
    Entered s (receive s (.decoded name override data opcode payload)) t := by
  rw [receive_decoded hev]
  simp [Entered, fsmEvent_some, hn, entryArms_eq_mem_armingStates, entryFlag_eq, exitFlag_eq]

/-- All outputs of such a response, where its hooks' emits are just published and nothing is dispatched. -/
theorem receive_decoded_of_justPublished (hev : (override.getD name).event? = some ev)
    (hn : nextState s.cfg.rules ev s.fsmState = some t)
    (he : ∀ e ∈ entryEmits t s.fsmState data, e.JustPublished)
    (hd : ∀ flag, entryDispatches t s.fsmState flag = []) :
    receive s (.decoded name override data opcode payload) =
      (transition t ((record s (.decoded name override data opcode payload)).push [.msgSeen])).push
        ((readyIf s.fsmState ++ entryEmits t s.fsmState data).map .emit) := by
  rw [receive_decoded hev]
  exact react_of_justPublished (s := (record s _).push _) hn he hd

/-- The instruction enters `t`, keeps the caches, publishes `e` (after `ready`, if Connected is left) and transmits
nothing. -/
def EntersAndPublishes (i : Instr) (s : State) (t : StateName) (e : DomainEvent) : Prop :=
  ∃ (u : State) (l : List Output), exec i s = .next u ∧ Entered s u t ∧
    u.denomTab = s.denomTab ∧ u.swVersion = s.swVersion ∧ u.out = s.out ++ l ∧
    emitsOf l = readyIf s.fsmState ++ [e] ∧ txOf l = []

/-- A row of a decoded response whose event leads to a state whose only emit is just published. -/
theorem entersAndPublishes_of_decoded {i : Instr} {e : DomainEvent}
    (hi : exec i s = .next (receive s (.decoded name override data opcode payload)))
    (hev : (override.getD name).event? = some ev)
    (hn : nextState s.cfg.rules ev s.fsmState = some t)
    (hemit : entryEmits t s.fsmState data = [e]) (he : e.JustPublished)
    (hd : ∀ flag, entryDispatches t s.fsmState flag = []) : EntersAndPublishes i s t e := by
  have hall : ∀ e' ∈ entryEmits t s.fsmState data, e'.JustPublished := by
    simpa only [hemit, List.forall_mem_singleton] using he
  have hreceive := receive_decoded_of_justPublished (opcode := opcode) (payload := payload) hev hn hall hd
  refine ⟨_, [.frame (.decoded name override data opcode payload), .msgSeen] ++
    armOutputs s.cfg.stuckMode t ++ (readyIf s.fsmState ++ [e]).map .emit, hi,
    entered_receive_decoded hev hn, ?_, ?_, ?_, ?_, ?_⟩
  · simp [hreceive]
  · simp [hreceive]
  · simp [hreceive, transition_eq, hemit]
  · rw [emitsOf_append, emitsOf_append, emitsOf_map_emit, emitsOf_armOutputs]
    rfl
  · rw [txOf_append, txOf_append, txOf_map_emit, txOf_armOutputs]
    rfl

end

/-! ### `escrow`, `rejecting`, `stacked` and the path family -/

/-- The first payload byte, resolved in the table as it is (R231). -/
theorem escrowData_of_tabLookup {m : DenomTab} {c : Byte} {d : Byte × Byte} (h : tabLookup m c = some d)
    (payload : Bytes) : escrowData (some m) (c :: payload) = .escrow (some c) (some d) := by
  simp [escrowData, h]

/-- Settles O34: the emit has a denomination, so that it is published and nothing is rejected. -/
theorem resolvedEscrowIsPublished : Obligations.ResolvedEscrowIsPublished := by
  intro opcode c payload m d s hn hm hd
  have hemit : entryEmits .escrow s.fsmState (escrowData s.denomTab (c :: payload)) =
      [.billRead (some d) (some c)] := by
    rw [hm, escrowData_of_tabLookup hd]
    rfl
  exact entersAndPublishes_of_decoded rfl rfl hn hemit (fun _ => rfl) fun _ => rfl

theorem rspRejecting_entersAndPublishes (opcode : Byte) (payload : Bytes) {s : State}
    (hn : nextState s.cfg.rules .rejecting s.fsmState = some .rejecting) :
    EntersAndPublishes (.rspRejecting opcode payload) s .rejecting
      (.billRejected ((payload.head?.bind (rejLookup s.cfg)).map .table) payload.head?) := by
  rw [List.head?_eq_getElem?]
  exact entersAndPublishes_of_decoded rfl rfl hn rfl (fun _ => rfl) fun _ => rfl

theorem rspStacked_entersAndPublishes (opcode : Byte) (payload : Bytes) {s : State}
    (hn : nextState s.cfg.rules .stacked s.fsmState = some .stacked) :
    EntersAndPublishes (.rspStacked opcode payload) s .stacked (.billStacked payload.head?) := by
  rw [List.head?_eq_getElem?]
  exact entersAndPublishes_of_decoded rfl rfl hn rfl (fun _ => rfl) fun _ => rfl

/-- Settles O35: both rows decode their first byte and publish it. -/
theorem rejectingAndStackedCarryTheirFirstByte : Obligations.RejectingAndStackedCarryTheirFirstByte := by
  intro opcode payload s
  refine ⟨fun hn => ?_, fun hn => ?_⟩
  · obtain ⟨u, l, hexec, hentered, -, -, hout, hemits, htx⟩ :=
      rspRejecting_entersAndPublishes opcode payload hn
    exact ⟨u, l, hexec, hentered, hout, htx, hemits⟩
  · obtain ⟨u, l, hexec, hentered, -, -, hout, hemits, htx⟩ :=
      rspStacked_entersAndPublishes opcode payload hn
    exact ⟨u, l, hexec, hentered, hout, htx, hemits⟩

/-- A path row publishes the data of its kind: the event and the state are those of the overriding name (R242 to
R246), the emit is that state's. -/
theorem entersAndPublishes_of_path {i : Instr} {kind : Option Kind} {opcode : Byte} {payload : Bytes}
    {ev : Event} {s : State} {t : StateName} {e : Option PathData → DomainEvent}
    (hi : exec i s = .next (receive s (pathResponse s.cfg kind opcode payload)))
    (hev : ((pathOverride kind).getD .currencypath).event? = some ev)
    (hn : nextState s.cfg.rules ev s.fsmState = some t)
    (hemit : ∀ data, entryEmits t s.fsmState data = [e (dataPath data)])
    (he : ∀ d, (e d).JustPublished) (hd : ∀ flag, entryDispatches t s.fsmState flag = []) :
    EntersAndPublishes i s t (e (some (pathData s.cfg kind payload))) :=
  entersAndPublishes_of_decoded hi hev hn (hemit _) (he _) hd

/-- Settles O38, row by row: each row's kind gives its event, its state and its fields. -/
theorem pathRowsEmitTheirFields : Obligations.PathRowsEmitTheirFields := by
  intro opcode payload s field fields
  simp only [List.forall_mem_cons, List.not_mem_nil, false_imp_iff, implies_true, and_true]
  refine ⟨fun hn => ?currencypath, fun hn => ?count, fun hn => ?setCount, fun hn => ?setCurrentCount,
    fun hn => ?unrecognised⟩
  case currencypath =>
    exact entersAndPublishes_of_path (kind := some .currencyPath) (e := .pathCurrency) rfl rfl hn
      (fun _ => rfl) (fun _ _ => rfl) fun _ => rfl
  case count =>
    exact entersAndPublishes_of_path (kind := some .count) (e := .pathCount) rfl rfl hn
      (fun _ => rfl) (fun _ _ => rfl) fun _ => rfl
  case setCount =>
    exact entersAndPublishes_of_path (kind := some .setCount) (e := .pathSetCount) rfl rfl hn
      (fun _ => rfl) (fun _ _ => rfl) fun _ => rfl
  case setCurrentCount =>
    exact entersAndPublishes_of_path (kind := some .setCurrentCount) (e := .pathSetCurrentCount) rfl rfl
      hn (fun _ => rfl) (fun _ _ => rfl) fun _ => rfl
  case unrecognised =>
    exact entersAndPublishes_of_path (kind := none) (e := .pathCurrency) rfl rfl hn
      (fun _ => rfl) (fun _ _ => rfl) fun _ => rfl

end Sys2Proof.Machine

/-! PROOFS. The state machine (44_fsm.md R262 to R302): which target the rule table gives, what `op.FSM_EVENT` does
with an event that a rule admits and with one that none does, the entry hooks, and the stuck timer. -/

namespace Sys2Proof

/-! ### The rule table -/

theorem Source.admits_iff {src : Source} {s : StateName} :
    src.admits s = true ↔ src = .wildcard ∨ ∃ l, src = .states l ∧ s ∈ l := by
  cases src <;> simp [Source.admits]

/-- The rule is for the event, and its source admits the state (R262). -/
def Rule.Applies (r : Rule) (ev : Event) (s : StateName) : Prop := r.ev = ev ∧ r.src.admits s = true

/-- No two different rules apply to one event in one state. -/
def Rule.Compatible (r r' : Rule) : Prop := ∀ ev s, r.Applies ev s → r'.Applies ev s → r = r'

/-- At most one rule of the table applies to an event in a state. -/
def Unambiguous (rules : List Rule) : Prop := ∀ ⦃r⦄, r ∈ rules → ∀ ⦃r'⦄, r' ∈ rules → r.Compatible r'

/-- Disjoint sources have no state in common, and a wildcard is disjoint from nothing (R264). -/
theorem compatible_of_rulesDisjoint {r r' : Rule} (h : rulesDisjoint r r' = true) : r.Compatible r' := by
  rintro ev s ⟨hev, hs⟩ ⟨hev', hs'⟩
  simp only [rulesDisjoint, hev, hev', bne_self_eq_false, Bool.false_or] at h
  split at h
  next hl hl' =>
    simp only [hl, hl', Source.admits, List.contains_eq_mem, decide_eq_true_eq] at hs hs'
    simp only [List.all_eq_true, Bool.not_eq_true', List.contains_eq_mem, decide_eq_false_iff_not] at h
    exact absurd hs' (h s hs)
  next => cases h

theorem unambiguous_of_rulesWf {rules : List Rule} (h : rulesWf rules = true) : Unambiguous rules := by
  obtain ⟨hpair, -⟩ := Bool.and_eq_true_iff.1 h
  have hsymm : Std.Symm Rule.Compatible := ⟨fun _ _ hc ev s ha ha' => (hc ev s ha' ha).symm⟩
  exact ((of_decide_eq_true hpair).imp compatible_of_rulesDisjoint).forall_of_forall fun _ _ _ _ _ _ => rfl

/-- Whichever of its two phases finds it, the lookup answers the target of a rule that applies (R265). -/
theorem exists_applies_of_nextState {rules : List Rule} {ev : Event} {s t : StateName}
    (h : nextState rules ev s = some t) : ∃ r ∈ rules, r.Applies ev s ∧ r.tgt = t := by
  unfold nextState at h
  split at h
  next r hfind =>
    obtain ⟨hev, hsrc⟩ : r.ev = ev ∧ r.src = .wildcard := by simpa using List.find?_some hfind
    exact ⟨r, List.mem_of_find?_eq_some hfind, ⟨hev, Source.admits_iff.2 (.inl hsrc)⟩, by simpa using h⟩
  next =>
    obtain ⟨r, hfind, htgt⟩ := Option.map_eq_some_iff.1 h
    exact ⟨r, List.mem_of_find?_eq_some hfind, by simpa [Rule.Applies] using List.find?_some hfind, htgt⟩

/-- Without an answer no rule applies (R265). -/
theorem not_applies_of_nextState_none {rules : List Rule} {ev : Event} {s : StateName}
    (h : nextState rules ev s = none) : ∀ r ∈ rules, ¬ r.Applies ev s := by
  unfold nextState at h
  split at h
  next => cases h
  next => simpa [Rule.Applies] using h

/-- Where at most one rule applies, the lookup finds it. -/
theorem nextState_eq_some_iff {rules : List Rule} (h : Unambiguous rules) {ev : Event} {s t : StateName} :
    nextState rules ev s = some t ↔ ∃ r ∈ rules, r.Applies ev s ∧ r.tgt = t := by
  refine ⟨exists_applies_of_nextState, ?_⟩
  rintro ⟨r, hr, ha, rfl⟩
  cases hn : nextState rules ev s with
  | none => exact absurd ha (not_applies_of_nextState_none hn r hr)
  | some t =>
    obtain ⟨r', hr', ha', rfl⟩ := exists_applies_of_nextState hn
    rw [h hr hr' ev s ha ha']

theorem nextState_perm {rules rules' : List Rule} (h : Unambiguous rules) (hp : rules'.Perm rules)
    (ev : Event) (s : StateName) : nextState rules' ev s = nextState rules ev s := by
  have h' : Unambiguous rules' := fun _ hr _ hr' => h (hp.mem_iff.1 hr) (hp.mem_iff.1 hr')
  ext t
  simp only [nextState_eq_some_iff h, nextState_eq_some_iff h', hp.mem_iff]

/-- Settles O17: in a well-formed table at most one rule applies, and membership decides which. -/
theorem lookupUnderWellFormedRules : Obligations.LookupUnderWellFormedRules := by
  intro rules h ev s
  have hu := unambiguous_of_rulesWf h
  refine ⟨fun t => ?_, fun rules' hp => nextState_perm hu hp ev s⟩
  simp only [nextState_eq_some_iff hu, Rule.Applies, Source.admits_iff, and_assoc]
  simp only [and_comm]

/-- The wildcard for `badFrame` is found from every state (R263 a, R299). -/
theorem nextState_badFrame {rules : List Rule} (h : rulesWf rules = true) (s : StateName) :
    nextState rules .badFrame s = some .badFrame := by
  obtain ⟨r, hr, hrow⟩ := List.any_eq_true.1 (Bool.and_eq_true_iff.1 h).2
  obtain ⟨⟨hev, hsrc⟩, htgt⟩ : (r.ev = .badFrame ∧ r.src = .wildcard) ∧ r.tgt = .badFrame := by
    simpa using hrow
  exact (nextState_eq_some_iff (unambiguous_of_rulesWf h)).2
    ⟨r, hr, ⟨hev, Source.admits_iff.2 (.inl hsrc)⟩, htgt⟩

end Sys2Proof

namespace Sys2Proof.Machine

/-! ### `op.FSM_EVENT` -/

theorem exec_opFsmEvent (ev : Event) (data : EventData) (s : State) :
    exec (.opFsmEvent ev data) s =
      .next ((fsmEvent ev data s).1.push (reactionOutputs (fsmEvent ev data s).2)) := rfl

/-- An event that no rule admits, as an operation: the diagnostic and the result (R267). -/
theorem exec_opFsmEvent_of_none {ev : Event} {s : State} (data : EventData)
    (h : nextState s.cfg.rules ev s.fsmState = none) :
    exec (.opFsmEvent ev data) s =
      .next (s.push [.diag (.invalidTransition ev.code s.fsmState), .result .invalidTransition]) := by
  rw [exec_opFsmEvent, fsmEvent_none data h, State.push_push]
  rfl

/-- What `op.FSM_EVENT` outputs when `t` is entered, but for the pulse: the emits, the commands, `Ok` (R266, R269).
The entry hook reads `disable_flag` as the exit hook leaves it (R272). -/
def hookOutputs (t : StateName) (data : EventData) (s : State) : List Output :=
  (readyIf s.fsmState ++ entryEmits t s.fsmState data).map .emit ++
    (entryDispatches t s.fsmState (s.disableFlag && decide (s.fsmState ≠ .disable))).map .request ++
    [.result .ok]

/-- An event that a rule admits, as an operation: the transition and its outputs (R266). -/
theorem exec_opFsmEvent_of_some {ev : Event} {s : State} {t : StateName} (data : EventData)
    (h : nextState s.cfg.rules ev s.fsmState = some t) :
    exec (.opFsmEvent ev data) s = .next ((transition t s).push (hookOutputs t data s)) := by
  rw [exec_opFsmEvent, fsmEvent_some data h, exitEmits_eq_readyIf, exitFlag_eq]
  rfl

/-- Settles O16. -/
theorem invalidTransitionChangesNothing : Obligations.InvalidTransitionChangesNothing :=
  fun _ data _ => exec_opFsmEvent_of_none data

/-- Settles O15: the whole state after a transition, then the outputs of the operation. -/
theorem admittedEventMakesTheTransition : Obligations.AdmittedEventMakesTheTransition := by
  intro ev data s t h
  rw [exec_opFsmEvent_of_some data h, transition_eq]
  simp only [State.push, hookOutputs, armOutputs, armingStates, List.append_assoc]
  rfl

/-- Settles O25: the transition to BadFrame, whose entry hook does nothing and arms nothing. -/
theorem badFrameEventAlwaysSucceeds : Obligations.BadFrameEventAlwaysSucceeds := by
  intro s h
  rw [exec_opFsmEvent_of_some .noData (nextState_badFrame h s.fsmState), transition_eq]
  simp [State.push, hookOutputs, armOutputs, armingStates, entryEmits, entryDispatches]

/-! ### Entry hooks -/

@[simp] theorem emitsOf_map_request (l : List CmdName) : emitsOf (l.map .request) = [] := by
  simp [emitsOf]

@[simp] theorem requestsOf_append (a b : List Output) :
    requestsOf (a ++ b) = requestsOf a ++ requestsOf b := List.filterMap_append

@[simp] theorem requestsOf_map_request (l : List CmdName) : requestsOf (l.map .request) = l := by
  simp [requestsOf, List.filterMap_map]

@[simp] theorem requestsOf_map_emit (l : List DomainEvent) : requestsOf (l.map .emit) = [] := by
  simp [requestsOf]

@[simp] theorem requestsOf_armOutputs (mode : StuckMode) (t : StateName) :
    requestsOf (armOutputs mode t) = [] := by
  unfold armOutputs
  split <;> rfl

theorem emitsOf_hookOutputs (t : StateName) (data : EventData) (s : State) :
    emitsOf (hookOutputs t data s) = readyIf s.fsmState ++ entryEmits t s.fsmState data := by
  rw [hookOutputs, emitsOf_append, emitsOf_append, emitsOf_map_emit, emitsOf_map_request, List.append_nil]
  exact List.append_nil _

theorem requestsOf_hookOutputs (t : StateName) (data : EventData) (s : State) :
    requestsOf (hookOutputs t data s) =
      entryDispatches t s.fsmState (s.disableFlag && decide (s.fsmState ≠ .disable)) := by
  rw [hookOutputs, requestsOf_append, requestsOf_append, requestsOf_map_emit, requestsOf_map_request,
    List.nil_append]
  exact List.append_nil _

theorem entered_transition (t : StateName) (s : State) : Entered s (transition t s) t := by
  simp [Entered, entryArms_eq_mem_armingStates, entryFlag_eq, exitFlag_eq]

/-- Entering Enable or Disable leaves no deferred disable (R278, R279). -/
theorem Entered.disableFlag_eq_false {s u : State} {t : StateName} (h : Entered s u t)
    (ht : t = .enable ∨ t = .disable) : u.disableFlag = false := by
  obtain ⟨-, -, hflag, -⟩ := h
  rcases ht with rfl | rfl <;> simpa using hflag

/-- The instruction enters `t` and keeps the caches; it emits `ready`, if Connected is left, and then `emits`, and
requests the commands `requests` (R266). -/
def EntersAndRequests (i : Instr) (s : State) (t : StateName) (emits : List DomainEvent)
    (requests : List CmdName) : Prop :=
  ∃ (u : State) (o : List Output), exec i s = .next u ∧ Entered s u t ∧ u.out = s.out ++ o ∧
    emitsOf o = readyIf s.fsmState ++ emits ∧ requestsOf o = requests ∧
    u.denomTab = s.denomTab ∧ u.swVersion = s.swVersion

/-- An admitted event emits and requests what the entry hook of its target says, the hook reading `disable_flag` as
the exit hook leaves it (R269, R272). -/
theorem entersAndRequests_of_some {ev : Event} {data : EventData} {s : State} {t : StateName}
    {emits : List DomainEvent} {requests : List CmdName}
    (h : nextState s.cfg.rules ev s.fsmState = some t)
    (hemits : entryEmits t s.fsmState data = emits)
    (hrequests : entryDispatches t s.fsmState (s.disableFlag && decide (s.fsmState ≠ .disable)) = requests) :
    EntersAndRequests (.opFsmEvent ev data) s t emits requests := by
  subst hemits hrequests
  refine ⟨_, armOutputs s.cfg.stuckMode t ++ hookOutputs t data s, exec_opFsmEvent_of_some data h,
    entered_transition t s, ?_, ?_, ?_, transition_denomTab t s, transition_swVersion t s⟩
  · rw [State.push_out, transition_out, ← armOutputs_eq, List.append_assoc]
  · rw [emitsOf_append, emitsOf_armOutputs, emitsOf_hookOutputs, List.nil_append]
  · rw [requestsOf_append, requestsOf_armOutputs, requestsOf_hookOutputs, List.nil_append]

/-- Settles O18, row by row of the hook table: these hooks read neither the data, nor the state left, nor the
flag. -/
theorem simpleEntryHooksEmitAndDispatch : Obligations.SimpleEntryHooksEmitAndDispatch := by
  simp only [Obligations.SimpleEntryHooksEmitAndDispatch, List.forall_mem_cons, List.not_mem_nil,
    false_imp_iff, implies_true, and_true]
  and_intros <;> exact fun _ _ _ h => entersAndRequests_of_some h rfl rfl

/-- Settles O19: the hook of Enable reads the flag that the exit hook leaves. -/
theorem enteringEnableServesADeferredDisable : Obligations.EnteringEnableServesADeferredDisable := by
  intro ev data s h
  obtain ⟨u, o, hexec, hentered, hout, hemits, hrequests, -, -⟩ :=
    entersAndRequests_of_some (data := data) h rfl rfl
  refine ⟨u, o, hexec, hentered, hentered.disableFlag_eq_false (.inl rfl), hout, ?_, ?_⟩
  · simpa [entryEmits] using hemits
  · simpa [entryDispatches] using hrequests

/-- Settles O20: the hook of Disable reads the state left. -/
theorem enteringDisableFromInitializeEmitsStandby :
    Obligations.EnteringDisableFromInitializeEmitsStandby := by
  intro ev data s h
  obtain ⟨u, o, hexec, hentered, hout, hemits, hrequests, -, -⟩ :=
    entersAndRequests_of_some (data := data) h rfl rfl
  exact ⟨u, o, hexec, hentered, hentered.disableFlag_eq_false (.inr rfl), hout, hrequests, hemits⟩

/-- Settles O21: `ready` and the hook of VendValid's own emit exclude each other. -/
theorem enteringVendValidHasTheWarmResetQuirk : Obligations.EnteringVendValidHasTheWarmResetQuirk := by
  intro ev data s h
  obtain ⟨u, o, hexec, hentered, hout, hemits, hrequests, -, -⟩ :=
    entersAndRequests_of_some (data := data) h rfl rfl
  refine ⟨u, o, hexec, hentered, hout, fun hsrc => ⟨?_, ?_⟩, fun hsrc => ⟨?_, ?_⟩⟩
  · simp [hemits, hsrc, readyIf, entryEmits]
  · simp [hrequests, hsrc, entryDispatches]
  · simp [hemits, hsrc, readyIf, entryEmits]
  · simp [hrequests, hsrc, entryDispatches]

/-! ### Entry hooks that read the event data -/

/-- A hook reads data of a shape that is not its own as it reads `NoData` (R302; the log, row 20). -/
theorem entryEmits_of_not_fits {t : StateName} {data : EventData} (h : dataFits t data = false)
    (src : StateName) : entryEmits t src data = entryEmits t src .noData := by
  cases t with
  | rejecting =>
    cases data with
    | reject => cases h
    | _ => rfl
  | escrow =>
    cases data with
    | escrow => cases h
    | _ => rfl
  | stacked =>
    cases data with
    | stacked => cases h
    | _ => rfl
  | denominations =>
    cases data with
    | denoms => cases h
    | _ => rfl
  | version =>
    cases data with
    | version => cases h
    | _ => rfl
  | currencyPath | setCount | setCurrentCount | count =>
    cases data with
    | path => cases h
    | _ => rfl
  | _ => rfl

/-- Settles O22, row by row: with data of the row's shape the hook emits its fields, with any other data what it
emits for `NoData`. -/
theorem dataEntryHooksCarryTheEventData : Obligations.DataEntryHooksCarryTheEventData := by
  refine ⟨fun code path den reason es text d => ?fitting, ?other⟩ <;>
    simp only [List.forall_mem_cons, List.not_mem_nil, false_imp_iff, implies_true, and_true]
  case fitting =>
    and_intros <;> exact fun _ _ h => entersAndRequests_of_some h rfl rfl
  case other =>
    and_intros <;>
      exact fun _ _ s hfits h => entersAndRequests_of_some h (entryEmits_of_not_fits hfits s.fsmState) rfl

/-! ### The stuck timer -/

theorem exec_opStuckFire (s : State) : exec .opStuckFire s = .next (stuckFire s) := rfl

/-- An armed timer raises `stuck` and is armed no more (R292). -/
theorem stuckFire_of_armed {s : State} (h : s.stuckArmed = true) :
    stuckFire s = ((s.setArmed false).setFired true).push [.emit .stuck] := if_pos h

theorem stuckFire_of_not_armed {s : State} (h : s.stuckArmed = false) : stuckFire s = s := by
  simp [stuckFire, h]

/-- Settles O23: the first expiry disarms the timer, so the second does nothing. -/
theorem stuckFireRaisesStuckOnceWhileArmed : Obligations.StuckFireRaisesStuckOnceWhileArmed := by
  intro s
  refine ⟨fun h => ⟨?once, ?twice⟩, fun h => ?idle⟩
  case once =>
    rw [exec_opStuckFire, stuckFire_of_armed h]
    rfl
  case twice =>
    have hdisarmed : (stuckFire s).stuckArmed = false := by rw [stuckFire_of_armed h]; rfl
    have hagain : exec .opStuckFire (stuckFire s) = .next (stuckFire s) := by
      rw [exec_opStuckFire, stuckFire_of_not_armed hdisarmed]
    rw [execAll_cons_of_next (exec_opStuckFire s), execAll_cons_of_next hagain]
    rfl
  case idle => rw [exec_opStuckFire, stuckFire_of_not_armed h]

/-- `STUCK_MODE` is `never`, and the timer is not armed (R290). -/
structure NeverArmed (s : State) : Prop where
  mode : s.cfg.stuckMode = .never
  disarmed : s.stuckArmed = false

/-- Only a transition writes `stuck_armed` among the writes of the glue, and with `never` it arms nothing. -/
theorem GlueWrite.neverArmed {D : EventData → Prop} {s t : State} (hw : GlueWrite D s t)
    (h : NeverArmed s) : NeverArmed t := by
  obtain ⟨hmode, hdisarmed⟩ := h
  cases hw with
  | outputs ho =>
    obtain ⟨o, n, rfl⟩ := ho
    exact ⟨hmode, hdisarmed⟩
  | frame | ingest => exact ⟨hmode, hdisarmed⟩
  | transition t => exact ⟨by simpa using hmode, by simp [hmode, entryArms]⟩
  | table | version => exact ⟨by simpa using hmode, by simpa using hdisarmed⟩

/-- No control operation sets `stuck_armed` (R292, R400, R402, R403). -/
theorem ControlEffect.neverArmed {i : Instr} {s t : State} (hc : ControlEffect s i t)
    (h : NeverArmed s) : NeverArmed t := by
  obtain ⟨hmode, hdisarmed⟩ := h
  cases hc with
  | crcClear | crcByte | hostDisable => exact ⟨hmode, hdisarmed⟩
  | stuckFire | fsmNew | sessionRefresh | reset => exact ⟨hmode, rfl⟩

theorem exec_neverArmed {i : Instr} {s t : State} (h : NeverArmed s) (he : exec i s = .next t) :
    NeverArmed t := by
  rcases glueWrites_or_control_of_exec he with hg | hc
  · exact hg.keeps GlueWrite.neverArmed h
  · exact hc.neverArmed h

theorem step_neverArmed {s t : State} (h : NeverArmed s) (hstep : step s = .next t) : NeverArmed t := by
  rcases step_cases s with hidle | ⟨i, rest, hexec⟩ | ⟨r, hrefused⟩
  · cases hidle.symm.trans hstep
    exact h
  · exact exec_neverArmed (s := s.setInbox rest) ⟨h.mode, h.disarmed⟩ (hexec.symm.trans hstep)
  · cases hrefused.symm.trans hstep

/-- Settles O24: the timer stays disarmed by every write of a step. -/
theorem neverModeNeverArmsTheTimer : Obligations.NeverModeNeverArmsTheTimer := by
  intro s t hmode hdisarmed hstep
  obtain ⟨hmode', hdisarmed'⟩ := step_neverArmed ⟨hmode, hdisarmed⟩ hstep
  exact ⟨hdisarmed', hmode'⟩

end Sys2Proof.Machine

/-! PROOFS. The glue (45_glue.md R330 to R338) and the host commands without parameters (R340 to R345, R350, R351):
what `RX_DELIVER` makes of its bytes, and what a received frame outputs, caches and does to the state machine. -/

namespace Sys2Proof

/-! ### The bytes of an incomplete frame -/

/-- The beginning of an incomplete frame is an incomplete frame (R23). -/
theorem rxInv_of_rxInv_append {a b : Bytes} (h : Machine.rxInv (a ++ b) = true) :
    Machine.rxInv a = true := by
  match a with
  | [] => rfl
  | [x] =>
    cases b with
    | nil => exact h
    | cons len rest => exact rxInv_singleton.2 (rxInv_cons_cons.1 h).1
  | x :: len :: rest =>
    obtain ⟨hx, hlen⟩ := rxInv_cons_cons.1 h
    rw [List.append_eq, List.length_append] at hlen
    exact rxInv_cons_cons.2 ⟨hx, by omega⟩

/-- A delimited frame without its last byte is an incomplete frame (R23, R191). -/
theorem exists_rxInv_of_isOneFrame {frame : Bytes} (h : isOneFrame frame = true) :
    ∃ init last, frame = init ++ [last] ∧ Machine.rxInv init = true := by
  match frame with
  | [_, len] => exact ⟨[_], len, rfl, rxInv_singleton.2 (isOneFrame_cons_cons.1 h).1⟩
  | x :: len :: b :: rest =>
    obtain ⟨hx, hlen⟩ := isOneFrame_cons_cons.1 h
    refine ⟨x :: len :: (b :: rest).dropLast, (b :: rest).getLast (List.cons_ne_nil b rest), ?_,
      rxInv_cons_cons.2 ⟨hx, ?_⟩⟩
    · rw [List.cons_append, List.cons_append, List.dropLast_concat_getLast]
    · simp only [List.length_dropLast, List.length_cons] at hlen ⊢
      omega

end Sys2Proof

namespace Sys2Proof.Machine

/-! ### `RX_DELIVER` -/

theorem exec_opRxDeliver (chunk : Bytes) (s : State) :
    exec (.opRxDeliver chunk) s = .next (rxDeliver chunk s) := rfl

/-- The parser of `RX_DELIVER` leaves what the parser of `RX_CHUNK` leaves: what the glue does with a frame does not
reach the buffer (R330). -/
theorem rxDeliver_rxBuf (chunk : Bytes) {s : State} (h : rxInv s.rxBuf = true) :
    (rxDeliver chunk s).rxBuf = (ingest s.rxBuf chunk).2 := by
  induction chunk generalizing s with
  | nil =>
    rw [ingest_of_rxInv (by rwa [List.append_nil]), List.append_nil]
    rfl
  | cons b bytes ih =>
    have hbyte : rxInv (deliverByte s b).rxBuf = true := by
      rw [deliverByte_rxBuf]
      exact ingest_rxInv _ _
    calc (rxDeliver (b :: bytes) s).rxBuf = (rxDeliver bytes (deliverByte s b)).rxBuf := rfl
      _ = (ingest (ingest s.rxBuf [b]).2 bytes).2 := by rw [ih hbyte, deliverByte_rxBuf]
      _ = (ingest s.rxBuf ([b] ++ bytes)).2 := by rw [ingest_append]

/-- Settles O43: the parser takes the bytes as it takes the chunk, and the glue works byte by byte. -/
theorem deliverySplitsAnywhere : Obligations.DeliverySplitsAnywhere := by
  refine ⟨fun chunk s => ⟨rxDeliver chunk s, exec_opRxDeliver chunk s, rxDeliver_crcAcc chunk s,
    rxDeliver_stuckFired chunk s, rxDeliver_cfg chunk s, rxDeliver_inbox chunk s, fun h =>
    ⟨rxChunk chunk s, exec_opRxChunk chunk s, ?_⟩⟩, fun a b s => ?_⟩
  · rw [rxChunk_rxBuf, rxDeliver_rxBuf chunk h]
  · rw [execAll_cons_of_next (exec_opRxDeliver a s), execAll_cons_of_next (exec_opRxDeliver b _),
      ← rxDeliver_append]
    rfl

/-- A byte that leaves the frame incomplete is buffered (R192). -/
theorem deliverByte_of_rxInv {s : State} {b : Byte} (h : rxInv (s.rxBuf ++ [b]) = true) :
    deliverByte s b = s.setRxBuf (s.rxBuf ++ [b]) := by
  simp only [deliverByte, chunkOutcomes, ingested, ingest_of_rxInv h, List.map_nil, List.foldl_nil]

/-- A byte that completes the buffered frame has it parsed and handled (R330). -/
theorem deliverByte_of_isOneFrame {s : State} {b : Byte} (h : isOneFrame (s.rxBuf ++ [b]) = true) :
    deliverByte s b =
      receive (s.setRxBuf []) (parseFrame s.cfg s.denomTab (s.rxBuf ++ [b])) := by
  have hone : ingest s.rxBuf [b] = ([s.rxBuf ++ [b]], []) := ingest_of_isOneFrame h
  simp only [deliverByte, chunkOutcomes, ingested, hone, List.map_cons, List.map_nil, List.foldl_cons,
    List.foldl_nil]

/-- Bytes that leave the frame incomplete are buffered one by one. -/
theorem rxDeliver_of_rxInv (chunk : Bytes) {s : State} (h : rxInv (s.rxBuf ++ chunk) = true) :
    rxDeliver chunk s = s.setRxBuf (s.rxBuf ++ chunk) := by
  induction chunk generalizing s with
  | nil =>
    rw [List.append_nil]
    rfl
  | cons b bytes ih =>
    rw [List.append_cons] at h
    have hbyte : deliverByte s b = s.setRxBuf (s.rxBuf ++ [b]) :=
      deliverByte_of_rxInv (rxInv_of_rxInv_append h)
    calc rxDeliver (b :: bytes) s = rxDeliver bytes (deliverByte s b) := rfl
      _ = rxDeliver bytes (s.setRxBuf (s.rxBuf ++ [b])) := by rw [hbyte]
      _ = s.setRxBuf (s.rxBuf ++ [b] ++ bytes) := ih (s := s.setRxBuf (s.rxBuf ++ [b])) h
      _ = s.setRxBuf (s.rxBuf ++ b :: bytes) := by rw [← List.append_cons]

/-- One whole frame is buffered up to its last byte, which has it parsed and handled (R330). -/
theorem rxDeliver_of_isOneFrame {frame : Bytes} {s : State} (hbuf : s.rxBuf = [])
    (h : isOneFrame frame = true) :
    rxDeliver frame s = receive s (parseFrame s.cfg s.denomTab frame) := by
  obtain ⟨init, last, rfl, hinit⟩ := exists_rxInv_of_isOneFrame h
  have hbuffered : rxDeliver init s = s.setRxBuf init := by
    rw [rxDeliver_of_rxInv init (by rwa [hbuf]), hbuf, List.nil_append]
  calc rxDeliver (init ++ [last]) s = deliverByte (s.setRxBuf init) last := by
        rw [rxDeliver_append, hbuffered]
        rfl
    _ = receive ((s.setRxBuf init).setRxBuf [])
          (parseFrame s.cfg s.denomTab (init ++ [last])) := deliverByte_of_isOneFrame h
    _ = receive s (parseFrame s.cfg s.denomTab (init ++ [last])) := by
        rw [State.setRxBuf_setRxBuf, ← hbuf, State.setRxBuf_self]

theorem exec_opRxDeliver_of_isOneFrame {frame : Bytes} {s : State} (hbuf : s.rxBuf = [])
    (h : isOneFrame frame = true) :
    exec (.opRxDeliver frame) s = exec (frameInstr s.cfg frame) s := by
  rw [exec_opRxDeliver, rxDeliver_of_isOneFrame hbuf h, exec_frameInstr]

/-- Settles O44: the decoder chooses the frame's row only where it does what `RX_DELIVER` does. -/
theorem deliveringAFrameRunsItsRow : Obligations.DeliveringAFrameRunsItsRow := by
  refine ⟨fun _ _ => exec_opRxDeliver_of_isOneFrame, fun chunk rest s hin => ?_⟩
  by_cases hrow : (s.rxBuf.isEmpty && isOneFrame chunk) = true
  · obtain ⟨hempty, hone⟩ := Bool.and_eq_true_iff.1 hrow
    rw [step_of_decode_ok hin (if_pos hrow)]
    exact (exec_opRxDeliver_of_isOneFrame (s := s.setInbox rest) (List.isEmpty_iff.1 hempty) hone).symm
  · exact step_of_decode_ok hin (if_neg hrow)

/-! ### Host commands -/

/-- Settles O12: each of the seven operations is `TX_ENCODE` of its command without parameters. -/
theorem hostCommandsSendTheirStoredFrame : Obligations.HostCommandsSendTheirStoredFrame := by
  simp only [Obligations.HostCommandsSendTheirStoredFrame, List.forall_mem_cons, List.not_mem_nil,
    false_imp_iff, implies_true, and_true]
  and_intros <;>
    exact fun s => ⟨fun _ => SendsPlain.of_stored (fun _ => rfl), SendsPlain.of_none (fun _ => rfl)⟩

theorem exec_opHostDisable (s : State) : exec .opHostDisable s = .next (hostDisable s) := rfl

theorem hostDisable_of_disable {s : State} (h : s.fsmState = .disable) : hostDisable s = s := by
  simp only [hostDisable, h]

theorem hostDisable_of_enable {s : State} (h : s.fsmState = .enable) :
    hostDisable s = txEncode .inhibit none none s := by
  simp only [hostDisable, h]

theorem hostDisable_deferred {s : State} (hd : s.fsmState ≠ .disable) (he : s.fsmState ≠ .enable) :
    hostDisable s = s.setDisable true := by
  unfold hostDisable
  split
  next h => exact absurd h hd
  next h => exact absurd h he
  next => rfl

/-- Settles O13, by the state the command comes in. -/
theorem hostDisableTakesOneOfThreeBranches : Obligations.HostDisableTakesOneOfThreeBranches := by
  intro s
  rw [exec_opHostDisable]
  refine ⟨fun hdisable => ?_, fun henable => ⟨fun bytes ht => ?_, fun ht => ?_⟩, fun hd he => ?_⟩
  · rw [hostDisable_of_disable hdisable]
  · rw [hostDisable_of_enable henable, txEncode_stored none none ht rfl]
    rfl
  · rw [hostDisable_of_enable henable, txEncode_none none none ht]
    rfl
  · rw [hostDisable_deferred hd he]
    rfl

/-! ### Frames without an event -/

/-- A decoded response whose name has no event: its record and `msg_seen` (R332). -/
theorem receive_decoded_of_no_event {name : RspName} {override : Option RspName} (data : EventData)
    (opcode : Byte) (payload : Bytes) (s : State) (hev : (override.getD name).event? = none) :
    receive s (.decoded name override data opcode payload) =
      (record s (.decoded name override data opcode payload)).push [.msgSeen] := by
  simp only [receive, handle, hev]

/-- A recorded frame and further outputs, as the obligations write the next state. -/
theorem record_push (s : State) (o : FrameOutcome) (l : List Output) :
    (record s o).push l = { s with frm := some o, out := s.out ++ .frame o :: l } := by
  simp [record, State.push, State.setFrm]

/-- Settles O30: neither name has an event. -/
theorem ackAndInhibitAreConsumedSilently : Obligations.AckAndInhibitAreConsumedSilently := by
  intro opcode payload
  simp only [List.forall_mem_cons, List.not_mem_nil, false_imp_iff, implies_true, and_true]
  have hsilent (name : RspName) (hev : name.event? = none) (s : State) :
      receive s (plainResponse name opcode payload) = { s with
        frm := some (plainResponse name opcode payload)
        out := s.out ++ [.frame (plainResponse name opcode payload), .msgSeen] } :=
    (receive_decoded_of_no_event (override := none) .noData opcode payload s hev).trans (record_push s _ _)
  exact ⟨fun s => congrArg _ (hsilent .ack rfl s), fun s => congrArg _ (hsilent .inhibit rfl s)⟩

/-- Settles O31: the opcode is reported, and no event is raised. -/
theorem unknownResponseIsReported : Obligations.UnknownResponseIsReported :=
  fun opcode payload s => congrArg _ (record_push s (.unknownResponse opcode payload) [.unkRsp opcode])

/-! ### An event that no rule admits -/

/-- A response whose event no rule admits: its record, `msg_seen` and the diagnostic (R267, R331). -/
theorem receive_decoded_of_none {name : RspName} {override : Option RspName} (data : EventData)
    (opcode : Byte) (payload : Bytes) {ev : Event} {s : State}
    (hev : (override.getD name).event? = some ev) (hn : nextState s.cfg.rules ev s.fsmState = none) :
    receive s (.decoded name override data opcode payload) =
      (record s (.decoded name override data opcode payload)).push
        [.msgSeen, .diag (.invalidTransition ev.code s.fsmState)] := by
  rw [receive_decoded hev, react_of_none (s := (record s _).push _) data hn, State.push_push]
  rfl

/-- The row of a decoded response whose event no rule admits. -/
theorem exec_of_none {i : Instr} {name : RspName} {override : Option RspName} {data : EventData}
    {opcode : Byte} {payload : Bytes} {ev : Event} {s : State}
    (hi : exec i s = .next (receive s (.decoded name override data opcode payload)))
    (hev : (override.getD name).event? = some ev) (hn : nextState s.cfg.rules ev s.fsmState = none) :
    exec i s = .next { s with
      frm := some (.decoded name override data opcode payload)
      out := s.out ++ [.frame (.decoded name override data opcode payload), .msgSeen,
        .diag (.invalidTransition ev.code s.fsmState)] } := by
  rw [hi, receive_decoded_of_none data opcode payload hev hn, record_push]

/-- Settles O29, row by row: the row's data and its event. -/
theorem responseWithoutARuleIsLost : Obligations.ResponseWithoutARuleIsLost := by
  intro opcode payload s
  simp only [List.head?_eq_getElem?, List.forall_mem_cons, List.not_mem_nil, false_imp_iff, implies_true,
    and_true]
  and_intros <;> exact exec_of_none rfl rfl

/-! ### `msg_seen` pulses -/

@[simp] theorem msgSeenCount_append (a b : List Output) :
    msgSeenCount (a ++ b) = msgSeenCount a + msgSeenCount b := List.count_append

@[simp] theorem msgSeenCount_map_emit (l : List DomainEvent) : msgSeenCount (l.map .emit) = 0 :=
  List.count_eq_zero.2 (by simp)

@[simp] theorem msgSeenCount_armOutputs (mode : StuckMode) (t : StateName) :
    msgSeenCount (armOutputs mode t) = 0 := by
  unfold armOutputs
  split <;> rfl

/-- The outputs from one state to the next are appended, and `msg_seen` is not among them. -/
def AddsNoMsgSeen (s t : State) : Prop := ∃ l, t.out = s.out ++ l ∧ msgSeenCount l = 0

theorem AddsNoMsgSeen.refl (s : State) : AddsNoMsgSeen s s := ⟨[], (List.append_nil _).symm, rfl⟩

theorem AddsNoMsgSeen.trans {s t u : State} (h : AddsNoMsgSeen s t) (h' : AddsNoMsgSeen t u) :
    AddsNoMsgSeen s u := by
  obtain ⟨l, hout, hl⟩ := h
  obtain ⟨l', hout', hl'⟩ := h'
  exact ⟨l ++ l', by rw [hout', hout, List.append_assoc], by rw [msgSeenCount_append, hl, hl']⟩

theorem addsNoMsgSeen_foldl {α : Type} {f : State → α → State} (hf : ∀ s a, AddsNoMsgSeen s (f s a))
    (l : List α) (s : State) : AddsNoMsgSeen s (l.foldl f s) := by
  induction l generalizing s with
  | nil => exact .refl s
  | cons a l ih => exact (hf s a).trans (ih (f s a))

theorem addsNoMsgSeen_txEncode (c : CmdName) (p0 p1 : Option Byte) (s : State) :
    AddsNoMsgSeen s (txEncode c p0 p1 s) := by
  rcases txEncode_out c p0 p1 s with h | ⟨_, h⟩ <;> exact ⟨_, h, rfl⟩

theorem addsNoMsgSeen_afterEmit (s : State) (e : DomainEvent) : AddsNoMsgSeen s (afterEmit s e) := by
  unfold afterEmit
  split
  · exact addsNoMsgSeen_txEncode _ _ _ s
  · exact ⟨_, by rw [State.push_out, populate_out], rfl⟩
  · exact ⟨_, by rw [State.push_out, cacheVersion_out], rfl⟩
  · exact ⟨_, State.push_out s _, rfl⟩

/-- The glue pulses `msg_seen` for the frame only, not for what follows from it (R331, R354). -/
theorem addsNoMsgSeen_react (ev : Event) (data : EventData) (s : State) :
    AddsNoMsgSeen s (react ev data s) := by
  have hevent : AddsNoMsgSeen s (fsmEvent ev data s).1 := by
    rcases fsmEvent_cases ev data s with ⟨_, h⟩ | ⟨t, _, h⟩ <;> rw [h]
    · exact ⟨_, State.push_out s _, rfl⟩
    · exact ⟨armOutputs s.cfg.stuckMode t, by rw [transition_eq], msgSeenCount_armOutputs _ t⟩
  exact hevent.trans <| (addsNoMsgSeen_foldl addsNoMsgSeen_afterEmit _ _).trans <|
    addsNoMsgSeen_foldl (fun t c => addsNoMsgSeen_txEncode c none none t) _ _

/-! ### Responses with an event -/

/-- The row records a decoded frame with this opcode and payload, pulses `msg_seen` once, and the state machine takes
the event if a rule admits it (R331). -/
def RaisesEvent (i : Instr) (opcode : Byte) (payload : Bytes) (ev : Event) (s : State) : Prop :=
  ∃ (u : State) (o : FrameOutcome) (l : List Output),
    exec i s = .next u ∧ u.frm = some o ∧ o.status = 0 ∧ o.opcode? = some opcode ∧
    o.payload = payload ∧ u.out = s.out ++ .frame o :: .msgSeen :: l ∧ msgSeenCount l = 0 ∧
    (nextState s.cfg.rules ev s.fsmState = none → Held s u) ∧
    ∀ t, nextState s.cfg.rules ev s.fsmState = some t → Entered s u t

theorem held_record_push (s : State) (o : FrameOutcome) (l : List Output) :
    Held s ((record s o).push l) := by
  simp [Held]

theorem raisesEvent_of_decoded {i : Instr} {name : RspName} {override : Option RspName}
    {data : EventData} {opcode : Byte} {payload : Bytes} {ev : Event} {s : State}
    (hi : exec i s = .next (receive s (.decoded name override data opcode payload)))
    (hev : (override.getD name).event? = some ev) : RaisesEvent i opcode payload ev s := by
  obtain ⟨l, hout, hl⟩ := addsNoMsgSeen_react ev data
    ((record s (.decoded name override data opcode payload)).push [.msgSeen])
  refine ⟨_, _, l, hi, receive_frm s _, rfl, rfl, rfl, ?_, hl, fun hn => ?_, fun t =>
    entered_receive_decoded hev⟩
  · rw [receive_decoded hev, hout]
    simp
  · rw [receive_decoded_of_none data opcode payload hev hn]
    exact held_record_push s _ _

/-- The whole next state of a row without a decoded payload, when `t` is entered (R331, R354, R463). -/
theorem exec_of_plainResponse {i : Instr} {name : RspName} {opcode : Byte} {payload : Bytes} {ev : Event}
    {s : State} {t : StateName} {sent : CmdName → List Output}
    (hi : exec i s = .next (receive s (.decoded name none .noData opcode payload)))
    (hev : name.event? = some ev) (hn : nextState s.cfg.rules ev s.fsmState = some t)
    (h : SendsAs s.cfg sent) :
    exec i s = .next { s with
      frm := some (.decoded name none .noData opcode payload)
      fsmState := t
      stuckArmed := decide (t ∈ armingStates ∧ s.cfg.stuckMode = .byState)
      disableFlag := s.disableFlag && decide (s.fsmState ≠ .disable) && decide (t ≠ .enable) &&
        decide (t ≠ .disable)
      out := s.out ++ [.frame (.decoded name none .noData opcode payload), .msgSeen] ++
        armOutputs s.cfg.stuckMode t ++
        (readyIf s.fsmState ++ entryEmits t s.fsmState .noData).flatMap (published sent) ++
        (entryDispatches t s.fsmState (s.disableFlag && decide (s.fsmState ≠ .disable))).flatMap
          sent } := by
  rw [hi, receive_decoded (override := none) hev, react_noData_of_some (s := (record s _).push _) hn h, transition_eq,
    record_push]
  simp only [State.push, List.append_assoc]

/-- Settles O28, row by row: the row's event, and for a row without a decoded payload the whole next state. -/
theorem responseRowsRaiseTheEventOfTheirName : Obligations.ResponseRowsRaiseTheEventOfTheirName := by
  refine ⟨fun opcode payload => ?event, fun opcode payload => ?plain⟩ <;>
    simp only [List.forall_mem_cons, List.not_mem_nil, false_imp_iff, implies_true, and_true]
  case event =>
    and_intros <;> exact fun s => raisesEvent_of_decoded rfl rfl
  case plain =>
    and_intros <;> exact fun s t sent => exec_of_plainResponse rfl rfl

/-! ### What a transition does before its entry hook is served -/

/-- The outputs of a transition to `t` before those that the entry hook of `t` asks for (R271, R290). -/
def beforeHookOutputs (t : StateName) (s : State) : List Output :=
  armOutputs s.cfg.stuckMode t ++ (readyIf s.fsmState).map .emit

theorem emitsOf_beforeHookOutputs (t : StateName) (s : State) :
    emitsOf (beforeHookOutputs t s) = readyIf s.fsmState := by
  simp [beforeHookOutputs]

theorem txOf_beforeHookOutputs (t : StateName) (s : State) : txOf (beforeHookOutputs t s) = [] := by
  simp [beforeHookOutputs]

theorem msgSeenCount_beforeHookOutputs (t : StateName) (s : State) :
    msgSeenCount (beforeHookOutputs t s) = 0 := by
  simp [beforeHookOutputs]

theorem txErr_not_mem_beforeHookOutputs (id : BitVec 4) (t : StateName) (s : State) :
    .txErr id ∉ beforeHookOutputs t s := by
  simp [beforeHookOutputs, armOutputs]

/-- The state in which the glue serves the entry hook of `t`: the transition is made, and `ready` is published if
Connected was left (R271, R354). -/
def beforeHook (t : StateName) (s : State) : State :=
  (transition t s).push ((readyIf s.fsmState).map .emit)

/-- All outputs of a frame up to there, with those of its reception first (R330). -/
theorem beforeHook_record_push_out (t : StateName) (s : State) (o : FrameOutcome) (l : List Output) :
    (beforeHook t ((record s o).push l)).out =
      s.out ++ (.frame o :: l ++ beforeHookOutputs t s) := by
  simp [beforeHook, beforeHookOutputs, transition_eq]

@[simp] theorem beforeHook_denomTab (t : StateName) (s : State) :
    (beforeHook t s).denomTab = s.denomTab := by
  simp [beforeHook]

@[simp] theorem beforeHook_swVersion (t : StateName) (s : State) :
    (beforeHook t s).swVersion = s.swVersion := by
  simp [beforeHook]

@[simp] theorem beforeHook_cfg (t : StateName) (s : State) : (beforeHook t s).cfg = s.cfg := by
  simp [beforeHook]

/-- An admitted event whose entry hook emits `e` alone and dispatches nothing: all that is left is what the glue does
with `e` (R335 to R338, R354). -/
theorem react_of_emit {ev : Event} {data : EventData} {s : State} {t : StateName} {e : DomainEvent}
    (hn : nextState s.cfg.rules ev s.fsmState = some t) (hemit : entryEmits t s.fsmState data = [e])
    (hd : ∀ flag, entryDispatches t s.fsmState flag = []) :
    react ev data s = afterEmit (beforeHook t s) e := by
  have hready (u : State) : (readyIf s.fsmState).foldl afterEmit u =
      u.push ((readyIf s.fsmState).map .emit) := by
    unfold readyIf
    split
    · rfl
    · exact (State.push_nil u).symm
  rw [react, fsmEvent_some data hn, after, hd, hemit, exitEmits_eq_readyIf, List.foldl_append, hready]
  rfl

/-! ### Malformed frames -/

/-- A malformed frame under well-formed rules: its record, the diagnostic and the transition to BadFrame, whose entry
hook asks for nothing (R299, R333). -/
theorem receive_malformed {s : State} (h : rulesWf s.cfg.rules = true) (r : MalformedReason) :
    receive s (.malformed r) =
      beforeHook .badFrame ((record s (.malformed r)).push [.diag (.malformed r)]) := by
  rw [receive, handle, react_of_justPublished (t := .badFrame) (s := (record s _).push _)
    (nextState_badFrame h s.fsmState) (fun _ he => nomatch he) fun _ => rfl]
  exact congrArg (fun l => State.push _ (l.map .emit)) (List.append_nil _)

/-- The row enters BadFrame, keeps the caches, emits `ready` only if Connected is left, transmits nothing and does not
pulse `msg_seen` (R333). -/
def RaisesBadFrame (i : Instr) (r : MalformedReason) (s : State) : Prop :=
  ∃ (u : State) (l : List Output),
    exec i s = .next u ∧ Entered s u .badFrame ∧ u.frm = some (.malformed r) ∧
    u.denomTab = s.denomTab ∧ u.swVersion = s.swVersion ∧ u.out = s.out ++ l ∧
    emitsOf l = readyIf s.fsmState ∧ txOf l = [] ∧ msgSeenCount l = 0

theorem raisesBadFrame_of_malformed {i : Instr} {r : MalformedReason} {s : State}
    (hi : exec i s = .next (receive s (.malformed r))) (h : rulesWf s.cfg.rules = true) :
    RaisesBadFrame i r s := by
  refine ⟨_, [.frame (.malformed r), .diag (.malformed r)] ++ beforeHookOutputs .badFrame s, hi, ?_,
    receive_frm s _, ?_, ?_, ?_, emitsOf_beforeHookOutputs _ s, txOf_beforeHookOutputs _ s,
    msgSeenCount_beforeHookOutputs _ s⟩ <;> rw [receive_malformed h]
  · exact entered_transition .badFrame ((record s _).push _)
  · simp
  · simp
  · exact beforeHook_record_push_out .badFrame s _ _

/-- Settles O32: both reasons raise the event `badFrame`. -/
theorem malformedFrameRaisesBadFrame : Obligations.MalformedFrameRaisesBadFrame := by
  intro len opcode rest payload trailer
  simp only [List.forall_mem_cons, List.not_mem_nil, false_imp_iff, implies_true, and_true]
  exact ⟨fun s => raisesBadFrame_of_malformed rfl, fun s => raisesBadFrame_of_malformed rfl⟩

/-! ### Responses whose entry hook emits once -/

/-- The state in which a decoded frame raises its event (R331). -/
abbrev arrived (s : State) (o : FrameOutcome) : State := (record s o).push [.msgSeen]

/-- What a decoded frame outputs before the entry hook of `t` is served. -/
def frameOutputs (o : FrameOutcome) (t : StateName) (s : State) : List Output :=
  [.frame o, .msgSeen] ++ beforeHookOutputs t s

theorem emitsOf_frameOutputs (o : FrameOutcome) (t : StateName) (s : State) :
    emitsOf (frameOutputs o t s) = readyIf s.fsmState := emitsOf_beforeHookOutputs t s

theorem txOf_frameOutputs (o : FrameOutcome) (t : StateName) (s : State) :
    txOf (frameOutputs o t s) = [] := txOf_beforeHookOutputs t s

theorem txErr_not_mem_frameOutputs (id : BitVec 4) (o : FrameOutcome) (t : StateName) (s : State) :
    .txErr id ∉ frameOutputs o t s := by
  simp [frameOutputs, txErr_not_mem_beforeHookOutputs]

theorem beforeHook_arrived_out (o : FrameOutcome) (t : StateName) (s : State) :
    (beforeHook t (arrived s o)).out = s.out ++ frameOutputs o t s :=
  beforeHook_record_push_out t s o _

/-- A decoded response whose entry hook emits `e` alone and dispatches nothing (R331). -/
theorem receive_decoded_of_emit {name : RspName} {override : Option RspName} {data : EventData}
    {opcode : Byte} {payload : Bytes} {ev : Event} {s : State} {t : StateName} {e : DomainEvent}
    (hev : (override.getD name).event? = some ev) (hn : nextState s.cfg.rules ev s.fsmState = some t)
    (hemit : entryEmits t s.fsmState data = [e]) (hd : ∀ flag, entryDispatches t s.fsmState flag = []) :
    receive s (.decoded name override data opcode payload) =
      afterEmit (beforeHook t (arrived s (.decoded name override data opcode payload))) e := by
  rw [receive_decoded hev]
  exact react_of_emit (s := arrived s _) hn hemit hd

/-! ### The automatic reject -/

/-- The first payload byte has no entry, or there is no table, or no byte (R231). -/
theorem escrowData_of_unresolved {tab : Option DenomTab} {payload : Bytes}
    (h : ∀ m c, tab = some m → payload[0]? = some c → tabLookup m c = none) :
    escrowData tab payload = .escrow payload[0]? none := by
  rw [escrowData]
  cases hc : payload[0]? with
  | none => rfl
  | some c =>
    cases tab with
    | none => rfl
    | some m => simp [h m c rfl hc]

/-- What sending a command without parameters outputs: no emit; the stored frame, or `UnknownCommand` (R151, R152). -/
theorem exists_txEncode_outputs (c : CmdName) (s : State) :
    ∃ l, (txEncode c none none s).out = s.out ++ l ∧ emitsOf l = [] ∧
      (∀ bytes, HasStored s.cfg c bytes → l = sends c bytes) ∧
      (templateLookup s.cfg c = none → l = [.txErr c.id]) := by
  obtain ⟨l, hout, hemits⟩ : ∃ l, (txEncode c none none s).out = s.out ++ l ∧ emitsOf l = [] := by
    rcases txEncode_out c none none s with h | ⟨_, h⟩ <;> exact ⟨_, h, rfl⟩
  refine ⟨l, hout, hemits, fun bytes ht => ?_, fun ht => ?_⟩
  · rw [txEncode_stored none none ht rfl] at hout
    exact (List.append_cancel_left hout).symm
  · rw [txEncode_none none none ht] at hout
    exact (List.append_cancel_left hout).symm

/-- Settles O33: the entry hook's emit has no denomination, so that the glue sends `reject` for it. -/
theorem unresolvedEscrowIsRejected : Obligations.UnresolvedEscrowIsRejected := by
  intro opcode payload s hn hunresolved
  have hreceive : exec (.rspEscrow opcode payload) s = .next (txEncode .reject none none
      (beforeHook .escrow (arrived s (escrowResponse s.denomTab opcode payload)))) := by
    have hemit : entryEmits .escrow s.fsmState (escrowData s.denomTab payload) =
        [.billRead none payload[0]?] := by
      rw [escrowData_of_unresolved hunresolved]
      rfl
    exact congrArg _ (receive_decoded_of_emit rfl hn hemit fun _ => rfl)
  have hentered : Entered s (receive s (escrowResponse s.denomTab opcode payload)) .escrow :=
    entered_receive_decoded rfl hn
  obtain ⟨l, hout, hemits, hstored, hnone⟩ := exists_txEncode_outputs .reject
    (beforeHook .escrow (arrived s (escrowResponse s.denomTab opcode payload)))
  rw [beforeHook_cfg] at hstored hnone
  refine ⟨_, frameOutputs (escrowResponse s.denomTab opcode payload) .escrow s ++ l, hreceive,
    Host.Outcome.next.inj hreceive ▸ hentered, ?_, ?_, ?_, ?_, fun bytes ht => ⟨?_, ?_⟩,
    fun ht => ⟨?_, ?_⟩⟩
  · simp
  · simp
  · rw [hout, beforeHook_arrived_out, List.append_assoc]
  · rw [emitsOf_append, emitsOf_frameOutputs, hemits, List.append_nil]
  · rw [hstored bytes ht, txOf_append, txOf_frameOutputs]
    rfl
  · simp [hstored bytes ht, sends, txErr_not_mem_frameOutputs]
  · rw [hnone ht, txOf_append, txOf_frameOutputs]
    rfl
  · rw [hnone ht]
    exact List.mem_append_right _ List.mem_cons_self

/-! ### Responses that fill a cache -/

/-- The outputs of a row whose emit is published after a cache is filled. -/
theorem outputs_of_published (o : FrameOutcome) (t : StateName) (s : State) (e : DomainEvent) :
    emitsOf (frameOutputs o t s ++ [.emit e]) = readyIf s.fsmState ++ [e] ∧
      txOf (frameOutputs o t s ++ [.emit e]) = [] := by
  rw [emitsOf_append, txOf_append, emitsOf_frameOutputs, txOf_frameOutputs]
  exact ⟨rfl, rfl⟩

theorem tabBuild_concat (entries : List DenomEntry) (e : DenomEntry) :
    tabBuild (entries ++ [e]) = tabInsert e (tabBuild entries) := by
  simp [tabBuild]

/-- In a table built in order the last entry of a code wins (R336). -/
theorem tabLookup_tabBuild (entries : List DenomEntry) (c : Byte) :
    tabLookup (tabBuild entries) c =
      (entries.reverse.find? fun e => e.code = c).map fun e => (e.sig, e.exp) := by
  induction entries using List.reverseRecOn with
  | nil => rfl
  | append_singleton entries e ih =>
    rw [tabBuild_concat, List.reverse_concat, List.find?_cons]
    by_cases hc : e.code = c
    · subst hc
      simp [tabLookup_tabInsert_same]
    · rw [tabLookup_tabInsert_other _ (Ne.symm hc), ih]
      simp [hc]

/-- Settles O36: the glue fills an absent table with the entries, and publishes them. -/
theorem denominationTableIsWrittenOnce : Obligations.DenominationTableIsWrittenOnce := by
  intro opcode payload s hn
  have hreceive : receive s (denominationsResponse opcode payload) =
      (populate (denomEntries payload)
        (beforeHook .denominations (arrived s (denominationsResponse opcode payload)))).push
        [.emit (.denominations (some (denomEntries payload)))] :=
    receive_decoded_of_emit rfl hn rfl fun _ => rfl
  have htab : (receive s (denominationsResponse opcode payload)).denomTab =
      some (s.denomTab.getD (tabBuild (denomEntries payload))) := by
    simp [hreceive]
  obtain ⟨hemits, htx⟩ := outputs_of_published (denominationsResponse opcode payload) .denominations s
    (.denominations (some (denomEntries payload)))
  refine ⟨_, _, rfl, entered_receive_decoded rfl hn, ?_, ?_, hemits, htx, fun m hm => ?_, fun hm =>
    ⟨tabBuild (denomEntries payload), ?_, tabLookup_tabBuild _⟩⟩
  · simp [hreceive]
  · rw [hreceive, State.push_out, populate_out, beforeHook_arrived_out, List.append_assoc]
  · rw [htab, hm, Option.getD_some]
  · rw [htab, hm, Option.getD_none]

/-- Settles O37: the glue fills an absent cache with the payload, and publishes it. -/
theorem versionIsCachedOnce : Obligations.VersionIsCachedOnce := by
  intro opcode payload s hn
  have hreceive : receive s (versionResponse opcode payload) =
      (cacheVersion payload (beforeHook .version (arrived s (versionResponse opcode payload)))).push
        [.emit (.version (some payload))] :=
    receive_decoded_of_emit rfl hn rfl fun _ => rfl
  obtain ⟨hemits, htx⟩ := outputs_of_published (versionResponse opcode payload) .version s
    (.version (some payload))
  refine ⟨_, _, rfl, entered_receive_decoded rfl hn, ?_, ?_, ?_, hemits, htx⟩
  · simp [hreceive]
  · simp [hreceive]
  · rw [hreceive, State.push_out, cacheVersion_out, beforeHook_arrived_out, List.append_assoc]

end Sys2Proof.Machine

/-! PROOFS. Reset and session operations (70_reset_and_hazards.md R400 to R403): `RESET` and `SESSION_REFRESH` are
`FSM_NEW` and writes of further registers. -/

namespace Sys2Proof.Machine

/-! ### `FSM_NEW` -/

theorem exec_opFsmNew (s : State) : exec .opFsmNew s = .next (fsmNew s) := rfl

@[simp] theorem fsmNew_fsmState (s : State) : (fsmNew s).fsmState = .start := rfl

@[simp] theorem fsmNew_disableFlag (s : State) : (fsmNew s).disableFlag = false := rfl

@[simp] theorem fsmNew_stuckArmed (s : State) : (fsmNew s).stuckArmed = false := rfl

@[simp] theorem fsmNew_stuckFired (s : State) : (fsmNew s).stuckFired = false := rfl

/-- `FSM_NEW` writes the four elements of the state machine and nothing else; it runs no hook, so the outputs stay
too (R402). -/
theorem fsmNew_eq (s : State) : fsmNew s = { s with
    fsmState := .start, disableFlag := false, stuckArmed := false, stuckFired := false } := rfl

/-- Settles O50: the state machine is written directly, without the exit hook of the state left. -/
theorem fsmNewRebuildsTheMachine : Obligations.FsmNewRebuildsTheMachine := by
  intro s
  rw [exec_opFsmNew, fsmNew_eq]

/-! ### `SESSION_REFRESH` -/

theorem exec_opSessionRefresh (s : State) :
    exec .opSessionRefresh s = .next ((fsmNew s).setDenomTab none) := rfl

/-- Settles O51: after `FSM_NEW` only the denomination table is written. -/
theorem sessionRefreshClearsTheTable : Obligations.SessionRefreshClearsTheTable := by
  intro s
  rw [exec_opSessionRefresh, fsmNew_eq, State.setDenomTab]

/-! ### `RESET` -/

theorem exec_opReset (s : State) : exec .opReset s = .next (resetAll s) := rfl

/-- `RESET` does what `FSM_NEW` does, and empties both caches (R400, R402). -/
theorem resetAll_session (s : State) :
    (resetAll s).fsmState = .start ∧ (resetAll s).disableFlag = false ∧
      (resetAll s).stuckArmed = false ∧ (resetAll s).stuckFired = false ∧
      (resetAll s).denomTab = none ∧ (resetAll s).swVersion = none := by
  simp [resetAll]

/-- `RESET` empties the CRC unit and the receive buffer (R400). -/
theorem resetAll_reception (s : State) :
    (resetAll s).crcAcc = s.cfg.crc.init ∧ (resetAll s).rxBuf = [] := by
  simp [resetAll]

/-- `RESET` keeps the parameters and produces no output (R400). -/
theorem resetAll_frame (s : State) : (resetAll s).cfg = s.cfg ∧ (resetAll s).out = s.out := by
  simp [resetAll]

/-- Settles O49: of the registers named, `RESET` writes all, and it keeps the parameters and the outputs. -/
theorem resetRestoresEveryElement : Obligations.ResetRestoresEveryElement := by
  intro s
  obtain ⟨hcrc, hbuf⟩ := resetAll_reception s
  obtain ⟨hfsm, hdisable, harmed, hfired, htab, hversion⟩ := resetAll_session s
  obtain ⟨hcfg, hout⟩ := resetAll_frame s
  exact ⟨resetAll s, exec_opReset s, hcrc, hbuf, hfsm, hdisable, harmed, hfired, htab, hversion,
    hcfg, hout⟩

end Sys2Proof.Machine
